-- ==== Sys2Proof/Word.lean ====
section
/-! DEFINITION. The widths the spec writes its numbers in, and their plainest arithmetic. -/

namespace Sys2Proof

/-- One byte of a frame (R4). -/
abbrev Byte := BitVec 8

/-- A point code, 0–4095 (00_scope.md, terms). -/
abbrev PointCode := BitVec 12

/-- A zone number, Z0 to Z3. -/
abbrev Zone := Fin 4

/-- A place of the outbound command table, 0 to 63 (R157). -/
abbrev OutIndex := Fin 64

/-- One value for each of the four zones, lanes or light channels. -/
abbrev PerZone (α : Type) := Vector α 4

/-- The number a byte carries. -/
abbrev Byte.num (b : Byte) : Nat := b.toNat

end Sys2Proof
end

