-- ==== Sys2Proof/Config.lean ====
section
/-! DEFINITION. The capacities and constants the spec fixes, and the values it leaves open (opaque, without a body). -/

namespace Sys2Proof.Config

/-- R10: capacity of the room queue. -/
abbrev roomCapacity : Nat := 24
/-- R10: relay share of the room queue. -/
abbrev roomShare : Nat := 16
/-- R10: capacity of the trunk queue. -/
abbrev trunkCapacity : Nat := 16
/-- R10: relay share of the trunk queue. -/
abbrev trunkShare : Nat := 12
/-- R21: places of the point table. -/
abbrev pointPlaces : Nat := 384
/-- R157: places of the outbound command table. -/
abbrev outputPlaces : Nat := 64
/-- R87: bookings per page. -/
abbrev bookingPlaces : Nat := 64
/-- R186: records of the capture queue. -/
abbrev capturePlaces : Nat := 32
/-- R19: top of the 16-bit counts. -/
abbrev countTop : Nat := 65535
/-- R186: top of the overflow count. -/
abbrev overflowTop : Nat := 255
/-- R52, R113: top of a head count. -/
abbrev headTop : Nat := 400
/-- R124: the CO2 deadband, ppm. -/
abbrev co2Deadband : Nat := 50
/-- R124: the window dwell, s. -/
abbrev windowDwell : Nat := 120
/-- R142: the delay before SUN_HIGH, s. -/
abbrev sunHighDelay : Nat := 120
/-- R142: the delay before SUN_LOW, s. -/
abbrev sunLowDelay : Nat := 900
/-- R148: the fade of a daylight step, s. -/
abbrev daylightFade : Nat := 10
/-- R165: the backoff after NONE or BUSY, s. -/
abbrev backoffTime : Nat := 2
/-- R165: the time before a re-attempt, s. -/
abbrev reattemptTime : Nat := 60
/-- R93: minutes of the week. -/
abbrev weekMinutes : Nat := 10080
/-- R84: seconds of the week. -/
abbrev weekSeconds : Nat := 604800

/-- FREE VALUE (R188, log 7): whether the outbound arbiter's offer is taken before the other own offer that wants
the same room-queue place, for the n-th free value used. -/
opaque arbiterFirst : Nat → Bool

/-- FREE VALUE (R97, R129, R41, log 8): which of several raises of one notice kind in one event comes last. -/
opaque lastRaised : Nat → Nat

/-- FREE VALUE (R173, log 13): whether a request of a code in which bits that stand for nothing are set is refused; by
the request code, the place of the bits in the arguments, and the bits. -/
opaque spareBitsRefused : Nat → Nat → Nat → Bool

/-- FREE VALUE (R173, log 16): the 4 bytes a reply carries for an elapsed second that does not fit them, and for an
optional one whose 4 bytes would read as none. -/
opaque wideSecond : Nat → BitVec 32

/-- FREE VALUE (R173, log 17): the 16 bits READ_POINT carries for a last value that is not one number. -/
opaque lastValueField : List Byte → BitVec 16

/-- FREE VALUE (R168, log 18): compared quantity and fade an entry holds after a drive whose value bytes are not of the
length its function carries; the first argument is the function's code. -/
opaque drivenValue : Nat → List Byte → Nat × Nat

/-- FREE VALUE (R173, log 15): a byte of a reply that has nothing to carry; by the request code, the byte's place in the
reply data, and the point code or table index of the record. -/
opaque unstatedByte : Nat → Nat → Nat → BitVec 8

/-- FREE VALUE (R162, R166, R168, log 33): compared quantity and fade carried by the frame of an entry that holds no value to
carry, for the n-th free value used. -/
opaque uncomputedValue : Nat → Nat × Nat

end Sys2Proof.Config
end

