-- ==== Sys2Proof/Syntax.lean ====
section
/-! DEFINITION. The commands of the device: one constructor of Instr for each row of spec/opcode_table.json. -/

namespace Sys2Proof

/-- A line connection of the device (R1); also the side of a point table entry (R22). -/
inductive Port where
  | room
  | trunk
  deriving DecidableEq, Repr

/-- Who sent a MANAGE request, and how (R169): the port its frame arrived on and the frame's header (R4) but for the target,
which is the device: origin, priority, toggle, hop, and the bits of byte 4 without a field. -/
structure Requester where
  port : Port
  line : BitVec 4
  node : Byte
  priority : BitVec 2
  toggle : Bool
  hop : BitVec 3
  spare : BitVec 7
  deriving DecidableEq, Repr

/-- A frame that another node sent on a line: its bytes, and the port's count of receptions cut off as it stood when the
reception began (log 9). -/
structure Reception where
  bytes : List Byte
  begun : Nat
  deriving DecidableEq, Repr

/-- The commands, in the order of the opcode table. -/
inductive Instr where
  /-- POWER_ON_RESET (R20): the straps ADR0–3, ADR4–7 and ADR8–15 as they are read (R7). -/
  | powerOnReset (trunkLine roomLine : BitVec 4) (node : Byte)
  /-- LINE_POWER_UP (R3). -/
  | linePowerUp (p : Port)
  /-- LINE_POWER_LOSS (R2). -/
  | linePowerLoss (p : Port)
  /-- FRAME_ARRIVAL (R6): the bytes received up to the end of the frame; `begun` is the port's count of receptions cut
  off as it stood when this reception began (log 9). -/
  | frameArrival (p : Port) (bytes : List Byte) (begun : Nat)
  /-- FRAME_START (R11): the line of the port is free. -/
  | frameStart (p : Port)
  /-- ARBITRATION_LOST (R11): the frame another node started together with the device's, its reception begun with both. -/
  | arbitrationLost (p : Port) (winner : Reception)
  /-- TRANSMISSION_OUTCOME (R13): the two bytes heard in the acknowledgement slot, or silence (R9). -/
  | transmissionOutcome (p : Port) (heard : Option (Byte × Byte))
  /-- OUTBOUND_ADMISSION (R162). -/
  | outboundAdmission
  /-- DRIVE_REOFFER (R188). -/
  | driveReoffer
  /-- DEFERRED_REPLY_OFFER (R171). -/
  | deferredReplyOffer
  /-- NOTICE_OFFER (R181). -/
  | noticeOffer
  /-- GROUP_REPORT_OFFER (R117). -/
  | groupReportOffer
  /-- TRUNK_LINE_RESET_SIGNAL (R18): the signal on the trunk line ends. -/
  | trunkLineResetSignal
  /-- ROOM_LINE_RESET_SIGNAL (R17). -/
  | roomLineResetSignal
  /-- ELAPSED_SECOND_TICK (R80). -/
  | elapsedSecondTick
  /-- MINUTE_BOUNDARY (R81). -/
  | minuteBoundary
  /-- SILENCE_EXPIRY (R49) of the entry of a point code. -/
  | silenceExpiry (code : PointCode)
  /-- OVERRIDE_EXPIRY (R108) of a zone. -/
  | overrideExpiry (z : Zone)
  /-- HOLDOVER_EXPIRY (R104) of the group of a zone. -/
  | holdoverExpiry (z : Zone)
  /-- NO_SHOW_EXPIRY (R106) of the group of a zone. -/
  | noShowExpiry (z : Zone)
  /-- QUIET_TIME_EXPIRY (R103) of the group of a zone. -/
  | quietTimeExpiry (z : Zone)
  /-- PERIODIC_EVALUATION (R121) of a zone. -/
  | periodicEvaluation (z : Zone)
  /-- WINDOW_DWELL (R136) of a zone. -/
  | windowDwell (z : Zone)
  /-- LIGHT_TICK (R148) of a zone. -/
  | lightTick (z : Zone)
  /-- SPACING_END (R150) of a zone. -/
  | spacingEnd (z : Zone)
  /-- BACKOFF_END (R166) of a table index. -/
  | backoffEnd (i : OutIndex)
  /-- REATTEMPT (R166) of a table index. -/
  | reattempt (i : OutIndex)
  /-- REFRESH (R166) of a table index. -/
  | refresh (i : OutIndex)
  /-- UNKNOWN_REQUEST (R172): the whole value of the MANAGE frame, empty or beginning with a code that is not listed. -/
  | unknownRequest (rq : Requester) (value : List Byte)
  /-- DESCRIBE: request code 1 (R172) with its argument bytes. -/
  | describe (rq : Requester) (args : List Byte)
  /-- READ_STATUS: request code 2 (R172) with its argument bytes. -/
  | readStatus (rq : Requester) (args : List Byte)
  /-- LOAD_POINT: request code 3 (R172) with its argument bytes. -/
  | loadPoint (rq : Requester) (args : List Byte)
  /-- DELETE_POINT: request code 4 (R172) with its argument bytes. -/
  | deletePoint (rq : Requester) (args : List Byte)
  /-- READ_POINT: request code 5 (R172) with its argument bytes. -/
  | readPoint (rq : Requester) (args : List Byte)
  /-- LOAD_ZONE: request code 6 (R172) with its argument bytes. -/
  | loadZone (rq : Requester) (args : List Byte)
  /-- READ_ZONE: request code 7 (R172) with its argument bytes. -/
  | readZone (rq : Requester) (args : List Byte)
  /-- LOAD_OUTPUT: request code 8 (R172) with its argument bytes. -/
  | loadOutput (rq : Requester) (args : List Byte)
  /-- DELETE_OUTPUT: request code 9 (R172) with its argument bytes. -/
  | deleteOutput (rq : Requester) (args : List Byte)
  /-- READ_OUTPUT: request code 10 (R172) with its argument bytes. -/
  | readOutput (rq : Requester) (args : List Byte)
  /-- LOAD_BOOKING: request code 11 (R172) with its argument bytes. -/
  | loadBooking (rq : Requester) (args : List Byte)
  /-- CLEAR_STANDBY: request code 12 (R172) with its argument bytes. -/
  | clearStandby (rq : Requester) (args : List Byte)
  /-- SWAP_PAGES: request code 13 (R172) with its argument bytes. -/
  | swapPages (rq : Requester) (args : List Byte)
  /-- READ_BOOKING: request code 14 (R172) with its argument bytes. -/
  | readBooking (rq : Requester) (args : List Byte)
  /-- LOAD_SCENE: request code 15 (R172) with its argument bytes. -/
  | loadScene (rq : Requester) (args : List Byte)
  /-- LOAD_PROFILE: request code 16 (R172) with its argument bytes. -/
  | loadProfile (rq : Requester) (args : List Byte)
  /-- SET_PARAMETER: request code 17 (R172) with its argument bytes. -/
  | setParameter (rq : Requester) (args : List Byte)
  /-- READ_PARAMETER: request code 18 (R172) with its argument bytes. -/
  | readParameter (rq : Requester) (args : List Byte)
  /-- SET_OVERRIDE: request code 19 (R172) with its argument bytes. -/
  | setOverride (rq : Requester) (args : List Byte)
  /-- READ_NOTICES: request code 20 (R172) with its argument bytes. -/
  | readNotices (rq : Requester) (args : List Byte)
  /-- CLEAR_NOTICES: request code 21 (R172) with its argument bytes. -/
  | clearNotices (rq : Requester) (args : List Byte)
  /-- SET_MATCH: request code 22 (R172) with its argument bytes. -/
  | setMatch (rq : Requester) (args : List Byte)
  /-- READ_CAPTURE: request code 23 (R172) with its argument bytes. -/
  | readCapture (rq : Requester) (args : List Byte)
  /-- HOLD: request code 24 (R172) with its argument bytes. -/
  | hold (rq : Requester) (args : List Byte)
  /-- RESUME: request code 25 (R172) with its argument bytes. -/
  | resume (rq : Requester) (args : List Byte)
  /-- DRIVE_POINT: request code 26 (R172) with its argument bytes. -/
  | drivePoint (rq : Requester) (args : List Byte)
  /-- ROOM_RESET: request code 27 (R172) with its argument bytes. -/
  | roomReset (rq : Requester) (args : List Byte)
  /-- SOFT_RESET: request code 28 (R172) with its argument bytes. -/
  | softReset (rq : Requester) (args : List Byte)
  /-- TRUNK_RESET_SIGNAL_SEEN (R18): the signal on the trunk line begins. -/
  | trunkResetSignalSeen
  deriving DecidableEq, Repr

end Sys2Proof
end

