-- ==== Sys2Proof/WellFormed.lean ====
section
/-! DEFINITION. The static checks of a command: what a good MANAGE frame can carry (R4, R6, R172). -/

namespace Sys2Proof

/-- R6: a good frame's origin node is 1–254. -/
def Requester.wellFormed (rq : Requester) : Bool := rq.node != 0 && rq.node != 255

/-- R6: the value of a MANAGE frame is at most 40 bytes. -/
def valueWellFormed (value : List Byte) : Bool := value.length ≤ 40

/-- R172: the argument bytes, with the request code before them. -/
def argsWellFormed (args : List Byte) : Bool := args.length ≤ 39

/-- R172: a value of an unknown request is empty, or begins with a code outside 1–28, and is at most 40 bytes. -/
def unknownWellFormed (value : List Byte) : Bool :=
  valueWellFormed value && (match value with
    | [] => true
    | c :: _ => c == 0 || 28 < c.toNat)

/-- The checks of each command. A request command that no good frame can carry is still answered by exec, as the frame R6 calls
malformed; an unknown request whose value begins with a listed code is answered as its value says (log 5). -/
def Instr.wellFormed : Instr → Bool
  | .powerOnReset _ _ _ => true
  | .linePowerUp _ => true
  | .linePowerLoss _ => true
  | .frameArrival _ _ _ => true
  | .frameStart _ => true
  | .arbitrationLost _ _ => true
  | .transmissionOutcome _ _ => true
  | .outboundAdmission => true
  | .driveReoffer => true
  | .deferredReplyOffer => true
  | .noticeOffer => true
  | .groupReportOffer => true
  | .trunkLineResetSignal => true
  | .roomLineResetSignal => true
  | .elapsedSecondTick => true
  | .minuteBoundary => true
  | .silenceExpiry _ => true
  | .overrideExpiry _ => true
  | .holdoverExpiry _ => true
  | .noShowExpiry _ => true
  | .quietTimeExpiry _ => true
  | .periodicEvaluation _ => true
  | .windowDwell _ => true
  | .lightTick _ => true
  | .spacingEnd _ => true
  | .backoffEnd _ => true
  | .reattempt _ => true
  | .refresh _ => true
  | .unknownRequest rq value => rq.wellFormed && unknownWellFormed value
  | .describe rq args => rq.wellFormed && argsWellFormed args
  | .readStatus rq args => rq.wellFormed && argsWellFormed args
  | .loadPoint rq args => rq.wellFormed && argsWellFormed args
  | .deletePoint rq args => rq.wellFormed && argsWellFormed args
  | .readPoint rq args => rq.wellFormed && argsWellFormed args
  | .loadZone rq args => rq.wellFormed && argsWellFormed args
  | .readZone rq args => rq.wellFormed && argsWellFormed args
  | .loadOutput rq args => rq.wellFormed && argsWellFormed args
  | .deleteOutput rq args => rq.wellFormed && argsWellFormed args
  | .readOutput rq args => rq.wellFormed && argsWellFormed args
  | .loadBooking rq args => rq.wellFormed && argsWellFormed args
  | .clearStandby rq args => rq.wellFormed && argsWellFormed args
  | .swapPages rq args => rq.wellFormed && argsWellFormed args
  | .readBooking rq args => rq.wellFormed && argsWellFormed args
  | .loadScene rq args => rq.wellFormed && argsWellFormed args
  | .loadProfile rq args => rq.wellFormed && argsWellFormed args
  | .setParameter rq args => rq.wellFormed && argsWellFormed args
  | .readParameter rq args => rq.wellFormed && argsWellFormed args
  | .setOverride rq args => rq.wellFormed && argsWellFormed args
  | .readNotices rq args => rq.wellFormed && argsWellFormed args
  | .clearNotices rq args => rq.wellFormed && argsWellFormed args
  | .setMatch rq args => rq.wellFormed && argsWellFormed args
  | .readCapture rq args => rq.wellFormed && argsWellFormed args
  | .hold rq args => rq.wellFormed && argsWellFormed args
  | .resume rq args => rq.wellFormed && argsWellFormed args
  | .drivePoint rq args => rq.wellFormed && argsWellFormed args
  | .roomReset rq args => rq.wellFormed && argsWellFormed args
  | .softReset rq args => rq.wellFormed && argsWellFormed args
  | .trunkResetSignalSeen => true

end Sys2Proof
end

