-- ==== Sys2Proof/Machine/State.lean ====
section
/-! DEFINITION. The state of the device: every register, table, queue, timer and pin the spec gives it, and the queue of
waiting commands. -/

namespace Sys2Proof.Machine

/-! ### Frames and ports (chapter 1) -/

/-- R4: the six frame kinds. -/
inductive Kind where
  | state | command | query | reply | manage | manageReply
  deriving DecidableEq, Repr

/-- R4: a frame apart from its check. `spare` is bits 6–0 of byte 4, sent as 0 and ignored on reception. -/
structure Frame where
  priority : BitVec 2
  kind : Kind
  hop : BitVec 3
  originLine : BitVec 4
  originNode : Byte
  target : PointCode
  toggle : Bool
  spare : BitVec 7
  value : List Byte
  deriving DecidableEq, Repr

/-- R8: an answer in an acknowledgement slot. -/
inductive Answer where
  | ack | nak | busy
  deriving DecidableEq, Repr

/-- R9: the outcome of a transmission; `unheard` is the manual's NONE. -/
inductive TxOutcome where
  | done | ack | nak | busy | unheard
  deriving DecidableEq, Repr

/-- R180: the notice kinds, in the order of their codes. -/
inductive NoticeKind where
  | started | noShow | partitionMismatch | pointStale | actuatorUnanswered | actuatorRefused
  | relayUndelivered | clockStepped | clockStale | airLimited | captureOverflow | holdEntered
  deriving DecidableEq, Repr

/-- R14: the owner of a queued frame. A relayed COMMAND's owner carries its delivery record (R40): the point code the
frame arrived with and the re-queue count; the record's copy is the queued frame itself (log 23). -/
inductive Owner where
  | relay
  | delivery (arrived : PointCode) (requeues : Nat)
  | output (index : OutIndex)
  | drive
  | reply
  | notice (kind : NoticeKind)
  | report (leader : Zone)
  deriving DecidableEq, Repr

/-- Section 1.5: an entry of a transmit queue. -/
structure Queued where
  frame : Frame
  owner : Owner
  relayed : Bool
  order : Nat
  sending : Bool
  deriving DecidableEq, Repr

/-- One port: its state (R1), transmit queue in order of admission (R10), counters (R19), and how often a reception in
progress has been cut off (log 9). -/
structure LinePort where
  up : Bool
  queue : List Queued
  nextOrder : Nat
  checkErrors : Nat
  relayDropped : Nat
  cuts : Nat
  deriving DecidableEq, Repr

/-- R7: the node address as read from the straps. -/
structure NodeAddress where
  trunkLine : BitVec 4
  roomLine : BitVec 4
  node : Byte
  deriving DecidableEq, Repr

/-- What the last command drove on the pins: the answer in each port's acknowledgement slot (R8; none is silence) and
whether the line reset signal was driven on the room line (R16). -/
structure Pins where
  trunkSlot : Option Answer
  roomSlot : Option Answer
  roomSignal : Bool
  deriving DecidableEq, Repr

/-! ### Point table and evidence (chapters 2 and 3) -/

/-- R22: dispositions. -/
inductive Disposition where
  | pass | take | copy | block
  deriving DecidableEq, Repr

/-- R22: roles, in the order of their codes 1–12 (R173). -/
inductive Role where
  | motion | door | seatCount | co2 | lux | window | projector | wallKey | partition | sun | override | clock
  deriving DecidableEq, Repr

/-- R22: where a consumed value belongs. A partition number k is held as k − 1. -/
inductive Attachment where
  | none
  | zones (set : PerZone Bool)
  | lanes (map : PerZone (Option Zone))
  | partition (p : Fin 3)
  deriving DecidableEq, Repr

/-- R22: source and target bounds. -/
structure RangeMap where
  sourceLow : Nat
  sourceHigh : Nat
  targetLow : Nat
  targetHigh : Nat
  deriving DecidableEq, Repr

/-- R48: supervision states. -/
inductive Supervision where
  | awaiting | live | stale
  deriving DecidableEq, Repr

/-- R48: the last value of an entry that is no lane entry: one engineering value, or (OVERRIDE, CLOCK, and arrivals that
deliver nothing) the bytes as they came (log 17). -/
inductive LastValue where
  | number (n : Nat)
  | bytes (b : List Byte)
  deriving DecidableEq, Repr

/-- R31: origin and toggle of the last consumed COMMAND. -/
structure LastCommand where
  line : BitVec 4
  node : Byte
  toggle : Bool
  deriving DecidableEq, Repr

/-- A point table entry: the static fields of R22, then the runtime of R48 and R31. -/
structure PointEntry where
  code : PointCode
  side : Port
  disposition : Disposition
  relayCode : Option PointCode
  role : Option Role
  attachment : Attachment
  rangeMap : Option RangeMap
  silenceLimit : Nat
  supervision : Supervision
  deadline : Option Nat
  last : Option LastValue
  lanes : PerZone (Option Nat)
  lastArrival : Option Nat
  outOfSpan : Bool
  lastCommand : Option LastCommand
  deriving DecidableEq, Repr

/-- R57: the stored fields of a zone's evidence record. -/
structure EvidenceRecord where
  lastPresence : Option Nat
  pendingTime : Option Nat
  windowOpenedAt : Option Nat
  deriving DecidableEq, Repr

/-! ### Zones and groups (chapters 4 and 6) -/

/-- R60: the configuration of a present zone. -/
structure ZoneConfig where
  area : Nat
  walkIn : Nat
  dMax : Nat
  dMinOcc : Nat
  dMinUnocc : Nat
  partitionToNext : Bool
  facade : Bool
  deriving DecidableEq, Repr

/-- R63: override modes. -/
inductive OverrideMode where
  | auto | forceOccupied | forceVacant
  deriving DecidableEq, Repr

/-- R63: a zone's override. -/
structure ZoneOverride where
  mode : OverrideMode
  expiry : Option Nat
  deriving DecidableEq, Repr

/-- R99: the occupancy states, in the order of their report codes (R116). -/
inductive Occupancy where
  | vacant | prepare | expected | occupied | holdover | noShow
  deriving DecidableEq, Repr

/-- R86: session kinds. -/
inductive Session where
  | lecture | seminar | exam | event
  deriving DecidableEq, Repr

/-- R143: a scene selection: OFF, or a scene number 1–16. -/
inductive Selection where
  | off
  | scene (n : Nat)
  deriving DecidableEq, Repr

/-- R93: an upcoming booking: its id and the wing minute its instance starts at. -/
structure Upcoming where
  id : Nat
  start : Nat
  deriving DecidableEq, Repr

/-- R94: the booking fields the timetable supplies to a group. -/
structure BookingFields where
  list : PerZone (Option Nat)
  upcoming : Option Upcoming
  expected : Nat
  session : Option Session
  profile : Nat
  deriving DecidableEq, Repr

/-- R67: a group record; it is held under its leader's zone number. -/
structure Group where
  members : List Zone
  state : Occupancy
  effOverride : OverrideMode
  overrideExpiry : Option Nat
  booking : BookingFields
  attended : Bool
  pendingSince : Option Nat
  lastPresence : Option Nat
  holdoverDeadline : Option Nat
  noShowDeadline : Option Nat
  headCount : Nat
  manualScene : Option Selection
  presentation : Bool
  reportPending : Bool
  deriving DecidableEq, Repr

/-! ### Timetable (chapter 5) -/

/-- R81: wing time. -/
structure WingTime where
  weekday : Nat
  minute : Nat
  second : Nat
  deriving DecidableEq, Repr

/-- R86: a booking. The weekday set is one bit per weekday, Monday first. -/
structure Booking where
  id : Nat
  weekdays : Vector Bool 7
  start : Nat
  stop : Nat
  zones : PerZone Bool
  count : Nat
  session : Session
  lead : Nat
  profile : Nat
  deriving DecidableEq, Repr

/-- R87: the two pages. -/
inductive Page where
  | a | b
  deriving DecidableEq, Repr

/-- R92, R93: the booking view of a zone. -/
structure BookingView where
  active : Option Nat
  upcoming : Option Upcoming
  toNext : Option Nat
  deriving DecidableEq, Repr

/-! ### Air, light and shade (chapters 7 and 8) -/

/-- R134: thermal modes, in the order of their values. -/
inductive Thermal where
  | comfort | standby | economy | protect
  deriving DecidableEq, Repr

/-- R120: an air record, with the D_base and e_eff of the last evaluation (R137). -/
structure AirRecord where
  integrator : Int
  limited : Bool
  dOut : Nat
  allowance : Nat
  dTarget : Option Nat
  command : Option Nat
  thermal : Option Thermal
  dBase : Nat
  eEff : Int
  deriving DecidableEq, Repr

/-- R138: a channel setting. -/
inductive ChannelSetting where
  | fixed (level : Nat)
  | daylight (target minimum start : Nat)
  deriving DecidableEq, Repr

/-- R138: the content of a scene; the channels are WINDOW_ROW, MIDDLE_ROW, CORRIDOR_ROW, BOARD; no height or slat is KEEP. -/
structure Scene where
  channels : Vector ChannelSetting 4
  height : Option Nat
  slat : Option Nat
  fade : Nat
  deriving DecidableEq, Repr

/-- R140: the five slots of a profile. -/
structure Profile where
  arrival : Nat
  present : Nat
  exam : Nat
  dim : Nat
  unbooked : Nat
  deriving DecidableEq, Repr

/-- R141: a blind position. -/
structure BlindPosition where
  height : Nat
  slat : Nat
  deriving DecidableEq, Repr

/-- R141: a light record. A channel mode is true for DAYLIGHT. -/
structure LightRecord where
  scene : Option Selection
  modes : Vector Bool 4
  levels : Vector Nat 4
  fadeEnd : Option Nat
  blindTarget : Option BlindPosition
  blindSent : Option BlindPosition
  lastSend : Option Nat
  motionEnd : Option Nat
  deriving DecidableEq, Repr

/-- R142: the sun record; `high` is SUN_HIGH. -/
structure SunRecord where
  high : Bool
  highSince : Option Nat
  lowSince : Option Nat
  deriving DecidableEq, Repr

/-! ### Outbound command table (chapter 9) -/

/-- R157: functions, in the order of their codes (R173). -/
inductive OutFunction where
  | airflow | thermalMode | lightWindow | lightMiddle | lightCorridor | lightBoard | blindHeight | blindSlat
  deriving DecidableEq, Repr

/-- R160: states of an entry, in the order of their codes (R173). -/
inductive OutState where
  | idle | pending | queued | backoff | confirmed | unanswered | refused
  deriving DecidableEq, Repr

/-- R147, R157: a value of an entry: its compared quantity, and the fade of a light value (0 otherwise). -/
structure OutValue where
  quantity : Nat
  fade : Nat
  deriving DecidableEq, Repr

/-- An entry of the outbound table: the static fields of R157 with its table index, then the runtime of R160. -/
structure OutEntry where
  index : OutIndex
  code : PointCode
  zone : Zone
  function : OutFunction
  deadband : Nat
  refresh : Nat
  state : OutState
  toggle : Bool
  exposed : Bool
  computed : Option OutValue
  sent : Option OutValue
  confirmed : Option OutValue
  next : Option OutValue
  retries : Nat
  busies : Nat
  timer : Option Nat
  deriving DecidableEq, Repr

/-! ### Management and commissioning (chapters 10 and 11) -/

/-- R180: one kind of the notice set; a detail is 3 bytes. -/
structure Notice where
  flag : Bool
  detail : Option (BitVec 24)
  pending : Bool
  deriving DecidableEq, Repr

/-- R169: the last requester. -/
structure LastRequester where
  line : BitVec 4
  node : Byte
  toggle : Bool
  deriving DecidableEq, Repr

/-- R171: the deferred reply: where it goes, and the drive's outcome once the drive has ended. -/
structure DeferredReply where
  port : Port
  line : BitVec 4
  node : Byte
  priority : BitVec 2
  outcome : Option TxOutcome
  deriving DecidableEq, Repr

/-- R188: the DRIVE slot: its frame, and whether the frame has entered the room queue. -/
structure Drive where
  frame : Frame
  queued : Bool
  deriving DecidableEq, Repr

/-- R185: the side of a match unit. -/
inductive MatchSide where
  | room | trunk | either
  deriving DecidableEq, Repr

/-- R185: a match unit; `onOrigin` is false for POINT, `hold` is true for CAPTURE_HOLD. -/
structure MatchUnit where
  enable : Bool
  side : MatchSide
  onOrigin : Bool
  value : Nat
  hold : Bool
  hits : Nat
  deriving DecidableEq, Repr

/-- R186: a capture record. `frame.value` holds the first value bytes, up to 8, and `length` the frame's length. -/
structure CaptureRecord where
  transmitted : Bool
  port : Port
  frame : Frame
  length : Nat
  time : Option WingTime
  unit : Nat
  deriving DecidableEq, Repr

/-- R175: the parameters, in the order of their ids. The defaults are true for PASS. -/
structure Params where
  trunkToRoomPass : Bool
  roomToTrunkPass : Bool
  statusBase : Nat
  noticePoint : Nat
  horizon : Nat
  confirmWindow : Nat
  quietTime : Nat
  quietTimeCounted : Nat
  holdoverBooked : Nat
  holdoverUnbooked : Nat
  noShowLimit : Nat
  qPerson : Nat
  qArea : Nat
  cSet : Nat
  kI : Nat
  rStep : Nat
  purge : Nat
  daylightGain : Nat
  shareWindow : Nat
  shareMiddle : Nat
  shareCorridor : Nat
  sunHigh : Nat
  sunLow : Nat
  glareHeight : Nat
  glareSlat : Nat
  blindSpacing : Nat
  blindTravel : Nat
  holdRunClasses : Nat
  deriving DecidableEq, Repr

/-- The model's own: which events of the current second have not been taken yet (log 3). -/
structure Due where
  minute : Bool
  groupTick : PerZone Bool
  periodic : PerZone Bool
  dwell : PerZone Bool
  lightTick : PerZone Bool
  deriving DecidableEq, Repr

/-- The state of the device and its queue of waiting commands, first in, first out. -/
structure State where
  room : LinePort
  trunk : LinePort
  address : NodeAddress
  trunkSignal : Bool
  pins : Pins
  points : List PointEntry
  evidence : PerZone EvidenceRecord
  partitions : Vector (Option Bool) 3
  irradiance : Option Nat
  zones : PerZone (Option ZoneConfig)
  overrides : PerZone ZoneOverride
  groups : PerZone (Option Group)
  elapsed : Nat
  clock : Option WingTime
  freeRunning : Bool
  pageA : List Booking
  pageB : List Booking
  activePage : Page
  views : PerZone BookingView
  mismatch : List Nat
  air : PerZone AirRecord
  scenes : Vector (Option Scene) 16
  profiles : Vector Profile 8
  light : PerZone LightRecord
  sun : SunRecord
  outputs : List OutEntry
  lastRequester : Option LastRequester
  deferred : Option DeferredReply
  notices : Vector Notice 12
  params : Params
  hold : Bool
  matchUnits : Vector MatchUnit 5
  captures : List CaptureRecord
  overflow : Nat
  drive : Option Drive
  driveToggle : Bool
  due : Due
  free : Nat
  pending : List Instr
  deriving DecidableEq, Repr

/-- Why the machine stops. The spec describes no event that stops the device, so there is no such reason. -/
inductive Fault where
  deriving DecidableEq, Repr

/-- Why a command is not performed by the model. -/
inductive Refusal where
  /-- Raised by an arm of exec whose command has no meaning yet (safe); every command has one. -/
  | notModelled (mnemonic : String)
  deriving DecidableEq, Repr

/-- R1, R10, R19: a port after a power-on reset. -/
def LinePort.reset : LinePort := ⟨false, [], 0, 0, 0, 0⟩

/-- R118, R124, R155, R175: the power-on parameters. -/
def Params.reset : Params where
  trunkToRoomPass := false
  roomToTrunkPass := true
  statusBase := 4000
  noticePoint := 4004
  horizon := 120
  confirmWindow := 60
  quietTime := 600
  quietTimeCounted := 120
  holdoverBooked := 1200
  holdoverUnbooked := 600
  noShowLimit := 900
  qPerson := 80
  qArea := 30
  cSet := 1000
  kI := 20
  rStep := 200
  purge := 60
  daylightGain := 40
  shareWindow := 1000
  shareMiddle := 600
  shareCorridor := 300
  sunHigh := 250
  sunLow := 150
  glareHeight := 1000
  glareSlat := 700
  blindSpacing := 20
  blindTravel := 60
  holdRunClasses := 1

/-- R57: an evidence record with every field none. -/
def EvidenceRecord.reset : EvidenceRecord := ⟨none, none, none⟩
/-- R63: an override after a reset. -/
def ZoneOverride.reset : ZoneOverride := ⟨.auto, none⟩
/-- R98: the empty booking view. -/
def BookingView.reset : BookingView := ⟨none, none, none⟩
/-- R120: an air record after a reset; the allowance is R_step. -/
def AirRecord.reset (rStep : Nat) : AirRecord := ⟨0, false, 0, rStep, none, none, none, 0, 0⟩
/-- R141: a light record after a reset. -/
def LightRecord.reset : LightRecord :=
  ⟨none, Vector.replicate 4 false, Vector.replicate 4 0, none, none, none, none, none⟩
/-- R142: the sun record after a reset. -/
def SunRecord.reset : SunRecord := ⟨false, none, none⟩
/-- R185: a match unit after a power-on reset. -/
def MatchUnit.reset : MatchUnit := ⟨false, .either, false, 0, false, 0⟩
/-- R182: the notice set after a reset: STARTED set and pending, with its cause as the first byte of its detail. -/
def noticesReset (cause : BitVec 8) : Vector Notice 12 :=
  (Vector.replicate 12 (⟨false, none, false⟩ : Notice)).set 0 ⟨true, some (cause ++ (0 : BitVec 16)), true⟩
/-- The model's own: nothing is due (log 25). -/
def Due.reset : Due :=
  ⟨false, Vector.replicate 4 false, Vector.replicate 4 false, Vector.replicate 4 false, Vector.replicate 4 false⟩

/-- The machine right after a power-on reset that read these straps (R20 and the reset rule of each chapter). -/
def State.powerOn (address : NodeAddress) : State where
  room := LinePort.reset
  trunk := LinePort.reset
  address := address
  trunkSignal := false
  pins := ⟨none, none, false⟩
  points := []
  evidence := Vector.replicate 4 EvidenceRecord.reset
  partitions := Vector.replicate 3 none
  irradiance := none
  zones := Vector.replicate 4 none
  overrides := Vector.replicate 4 ZoneOverride.reset
  groups := Vector.replicate 4 none
  elapsed := 0
  clock := none
  freeRunning := false
  pageA := []
  pageB := []
  activePage := .a
  views := Vector.replicate 4 BookingView.reset
  mismatch := []
  air := Vector.replicate 4 (AirRecord.reset 200)
  scenes := Vector.replicate 16 none
  profiles := Vector.replicate 8 ⟨0, 0, 0, 0, 0⟩
  light := Vector.replicate 4 LightRecord.reset
  sun := SunRecord.reset
  outputs := []
  lastRequester := none
  deferred := none
  notices := noticesReset 0
  params := Params.reset
  hold := true
  matchUnits := Vector.replicate 5 MatchUnit.reset
  captures := []
  overflow := 0
  drive := none
  driveToggle := false
  due := Due.reset
  free := 0
  pending := []

/-- The machine right after reset, with straps that read trunk line 0, room line 1, node 1 (DESIGN CHOICE, log 1). -/
def State.reset : State := State.powerOn ⟨0, 1, 1⟩

end Sys2Proof.Machine
end

