-- ==== Sys2Proof/Machine/Ops.lean ====
section
/-! DEFINITION. The named operations shared by every family: rounding, vectors of four, ports and transmit queues, notices,
and the free values. -/

namespace Sys2Proof.Machine

/-! ### Rounding and limiting (00_scope.md) -/

/-- Round half up of n / d. -/
def roundHalfUp (n d : Nat) : Nat := (2 * n + d) / (2 * d)

/-- Round half away from zero of n / d. -/
def roundHalfAway (n : Int) (d : Nat) : Int :=
  if n < 0 then -(roundHalfUp n.natAbs d : Int) else (roundHalfUp n.natAbs d : Int)

/-- Truncate n / d toward zero. -/
def truncate (n : Int) (d : Nat) : Int := n.tdiv (d : Int)

/-- Clamp to the closed range from low to high. -/
def clampNat (low high x : Nat) : Nat := if x < low then low else if high < x then high else x

/-- Clamp a signed value to the closed range from low to high. -/
def clampInt (low high x : Int) : Int := if x < low then low else if high < x then high else x

/-- The later of two optional seconds, taking those that are not none. -/
def laterOf : Option Nat → Option Nat → Option Nat
  | some a, some b => some (max a b)
  | some a, none => some a
  | none, b => b

/-- The earlier of two optional seconds, taking those that are not none. -/
def earlierOf : Option Nat → Option Nat → Option Nat
  | some a, some b => some (min a b)
  | some a, none => some a
  | none, b => b

/-- Whether a second has reached an optional instant. -/
def reached (instant : Option Nat) (t : Nat) : Bool :=
  match instant with
  | some d => d ≤ t
  | none => false

/-! ### Four zones, lanes or channels -/

/-- The zones in ascending order. -/
abbrev allZones : List Zone := [0, 1, 2, 3]

/-- One value per zone. -/
def forZones {α : Type} (f : Zone → α) : PerZone α := #v[f 0, f 1, f 2, f 3]

/-- The members of a zone set, ascending. -/
def zonesOf (set : PerZone Bool) : List Zone := allZones.filter fun z => set[z]

/-! ### Ports and transmit queues (R1, R10, R14) -/

/-- The port a frame did not arrive on (R27). -/
def otherPort : Port → Port
  | .room => .trunk
  | .trunk => .room

/-- The port of a line. -/
def State.port (s : State) : Port → LinePort
  | .room => s.room
  | .trunk => s.trunk

/-- The state with one port replaced. -/
def State.withPort (s : State) (p : Port) (q : LinePort) : State :=
  match p with
  | .room => { s with room := q }
  | .trunk => { s with trunk := q }

/-- R10: capacity of a queue. -/
def capacity : Port → Nat
  | .room => Config.roomCapacity
  | .trunk => Config.trunkCapacity

/-- R10: relay share of a queue. -/
def relayShare : Port → Nat
  | .room => Config.roomShare
  | .trunk => Config.trunkShare

/-- R10: the relayed frames a queue holds. -/
def relayedCount (q : List Queued) : Nat := (q.filter (·.relayed)).length

/-- R10: whether a queue has room for a frame. -/
def hasRoom (p : Port) (relayed : Bool) (q : List Queued) : Bool :=
  q.length < capacity p && (!relayed || relayedCount q < relayShare p)

/-- R10: whether an offered frame is admitted. -/
def admits (p : Port) (relayed : Bool) (s : State) : Bool :=
  (s.port p).up && hasRoom p relayed (s.port p).queue

/-- R10: an admitted frame enters its queue WAITING with the next order of admission. -/
def LinePort.enqueue (q : LinePort) (f : Frame) (owner : Owner) (relayed : Bool) : LinePort :=
  { q with queue := q.queue ++ [⟨f, owner, relayed, q.nextOrder, false⟩], nextOrder := q.nextOrder + 1 }

/-- R10: the offer of a frame; none is the refusal the offerer learns of. -/
def offer (p : Port) (f : Frame) (owner : Owner) (relayed : Bool) (s : State) : Option State :=
  if admits p relayed s then some (s.withPort p ((s.port p).enqueue f owner relayed)) else none

/-- R19: a 16-bit count that saturates. -/
def bump (n : Nat) : Nat := if n < Config.countTop then n + 1 else n

/-- R6, R19: a malformed frame is counted. -/
def countMalformed (p : Port) (s : State) : State :=
  s.withPort p { s.port p with checkErrors := bump (s.port p).checkErrors }

/-- R10, R19: an unconfirmed relayed frame is dropped at this port's queue. -/
def countDropped (p : Port) (s : State) : State :=
  s.withPort p { s.port p with relayDropped := bump (s.port p).relayDropped }

/-- R2, R16, R17, R18: a frame in reception on a port is abandoned without counting (log 9). -/
def cutReception (p : Port) (s : State) : State :=
  s.withPort p { s.port p with cuts := (s.port p).cuts + 1 }

/-- R1, R18: whether frames are received on a port: it is UP, and the trunk line is not holding the reset signal. -/
def receiving (p : Port) (s : State) : Bool :=
  (s.port p).up && !(p == .trunk && s.trunkSignal)

/-- R8: the answer in the acknowledgement slot of a port. -/
def answer (p : Port) (a : Option Answer) (s : State) : State :=
  match p with
  | .room => { s with pins := { s.pins with roomSlot := a } }
  | .trunk => { s with pins := { s.pins with trunkSlot := a } }

/-- At the start of a command no pin is driven (log 12). -/
def clearPins (s : State) : State := { s with pins := ⟨none, none, false⟩ }

/-- R7: the node number of the straps is valid; 0 and 255 hold both ports DOWN. -/
def nodeValid (node : Byte) : Bool := node != 0 && node != 255

/-! ### Bytes -/

/-- One byte of a number. -/
abbrev byteOf (n : Nat) : Byte := BitVec.ofNat 8 n

/-- R4: a 16-bit quantity, most significant byte first. -/
def be16 (n : Nat) : List Byte := [byteOf (n / 256), byteOf n]

/-- R173: a 24-bit quantity, most significant byte first. -/
def be24 (n : Nat) : List Byte := [byteOf (n / 65536), byteOf (n / 256), byteOf n]

/-- R173: a 32-bit quantity, most significant byte first. -/
def be32 (n : Nat) : List Byte :=
  [byteOf (n / 16777216), byteOf (n / 65536), byteOf (n / 256), byteOf n]

/-! ### Notices (R180) -/

/-- R180: the code of a notice kind. -/
def NoticeKind.code : NoticeKind → Fin 12
  | .started => 0
  | .noShow => 1
  | .partitionMismatch => 2
  | .pointStale => 3
  | .actuatorUnanswered => 4
  | .actuatorRefused => 5
  | .relayUndelivered => 6
  | .clockStepped => 7
  | .clockStale => 8
  | .airLimited => 9
  | .captureOverflow => 10
  | .holdEntered => 11

/-- The notice kinds in ascending code. -/
abbrev allNotices : List NoticeKind :=
  [.started, .noShow, .partitionMismatch, .pointStale, .actuatorUnanswered, .actuatorRefused,
   .relayUndelivered, .clockStepped, .clockStale, .airLimited, .captureOverflow, .holdEntered]

/-- The notice of a kind. -/
def State.notice (s : State) (k : NoticeKind) : Notice := s.notices[k.code]

/-- The state with the notice of a kind replaced. -/
def State.withNotice (s : State) (k : NoticeKind) (n : Notice) : State :=
  { s with notices := s.notices.set k.code n }

/-- R180: a detail of one 16-bit quantity, followed by a zero byte. -/
def detail16 (n : Nat) : BitVec 24 := BitVec.ofNat 16 n ++ (0 : BitVec 8)

/-- R180: a detail of one byte, followed by zero bytes. -/
def detail8 (n : Nat) : BitVec 24 := BitVec.ofNat 8 n ++ (0 : BitVec 16)

/-- R180: a detail of a 16-bit quantity and a byte. -/
def detail16and8 (n m : Nat) : BitVec 24 := BitVec.ofNat 16 n ++ BitVec.ofNat 8 m

/-- R180: a raise. -/
def raise (k : NoticeKind) (detail : BitVec 24) (s : State) : State :=
  if (s.notice k).flag then s.withNotice k { s.notice k with detail := some detail }
  else s.withNotice k ⟨true, some detail, true⟩

/-- Several raises of one kind in one event, whose order the spec leaves open: one of the details comes last, and which is
a free value (log 8). -/
def raiseOneOf (k : NoticeKind) (details : List (BitVec 24)) (s : State) : State :=
  match details with
  | [] => s
  | [d] => raise k d s
  | ds => raise k (ds.getD (Config.lastRaised s.free % ds.length) 0) { s with free := s.free + 1 }

/-! ### Elapsed-second marks of the model (log 3) -/

/-- Whether the second is a whole multiple of n. -/
def isMultiple (t n : Nat) : Bool := t % n == 0

end Sys2Proof.Machine
end

