-- ==== Sys2Proof/Machine/Operands.lean ====
section
/-! DEFINITION. The operand forms: the frame on the line (R4, R5, R6), the answer byte (R8, R9), the numbers of a request's
layout (R173), and the value forms of the roles (R44). -/

namespace Sys2Proof.Machine

/-! ### The frame on the line -/

/-- R4: kind codes. -/
def Kind.code : Kind → BitVec 3
  | .state => 1
  | .command => 2
  | .query => 3
  | .reply => 4
  | .manage => 5
  | .manageReply => 6

/-- R4: 0 and 7 are not kinds. -/
def Kind.ofCode (c : BitVec 3) : Option Kind :=
  match c.toNat with
  | 1 => some .state
  | 2 => some .command
  | 3 => some .query
  | 4 => some .reply
  | 5 => some .manage
  | 6 => some .manageReply
  | _ => none

/-- R4: kinds whose target is a point code. -/
def Kind.isPoint : Kind → Bool
  | .state | .command | .query | .reply => true
  | .manage | .manageReply => false

/-- Section 1.2: confirmed kinds. -/
def Kind.confirmed : Kind → Bool
  | .command | .manage => true
  | _ => false

/-- R6: the longest value of a kind. -/
def Kind.maxLength (k : Kind) : Nat := if k.isPoint then 8 else 40

/-- R5: one bit enters the check register. -/
def crcBit (r : BitVec 16) (b : Bool) : BitVec 16 :=
  if r.msb != b then (r <<< 1) ^^^ 0x1021#16 else r <<< 1

/-- R5: one byte enters most significant bit first. -/
def crcByte (r : BitVec 16) (b : Byte) : BitVec 16 :=
  [7, 6, 5, 4, 3, 2, 1, 0].foldl (fun r i => crcBit r (b.getLsbD i)) r

/-- R5: the check over bytes taken in order. -/
def crc (bytes : List Byte) : BitVec 16 := bytes.foldl crcByte 0xFFFF#16

/-- R4: bytes 0 to 5 of a frame. -/
def Frame.header (f : Frame) (length : Nat) : List Byte :=
  [ (f.priority ++ f.kind.code ++ f.hop : BitVec 8),
    (f.originLine ++ f.target.extractLsb' 8 4 : BitVec 8),
    f.originNode,
    f.target.extractLsb' 0 8,
    (BitVec.ofBool f.toggle ++ f.spare : BitVec 8),
    byteOf length ]

/-- R4: bytes 0 to 5 + length. -/
def Frame.body (f : Frame) : List Byte := f.header f.value.length ++ f.value

/-- R4, R5: the whole frame with its check, high byte first. -/
def Frame.encode (f : Frame) : List Byte := f.body ++ be16 (crc f.body).toNat

/-- R6: what a frame of a sound layout and check must still satisfy: its length, its origin node, and the target node of a
MANAGE kind. -/
def Frame.good (f : Frame) : Bool :=
  f.value.length ≤ f.kind.maxLength
  && f.originNode != 0 && f.originNode != 255
  && (f.kind.isPoint || (f.target.extractLsb' 0 8 != 0 && f.target.extractLsb' 0 8 != 255))

/-- R4, R5, R6: the good frame that received bytes are, or none where they are malformed. -/
def Frame.decode (bytes : List Byte) : Option Frame :=
  match bytes with
  | b0 :: b1 :: b2 :: b3 :: b4 :: b5 :: rest =>
    let n := b5.toNat
    if rest.length != n + 2 then none
    else if rest.drop n != be16 (crc (bytes.take (6 + n))).toNat then none
    else
      match Kind.ofCode (b0.extractLsb' 3 3) with
      | none => none
      | some k =>
        let f : Frame :=
          { priority := b0.extractLsb' 6 2, kind := k, hop := b0.extractLsb' 0 3,
            originLine := b1.extractLsb' 4 4, originNode := b2,
            target := b1.extractLsb' 0 4 ++ b3, toggle := b4.getLsbD 7, spare := b4.extractLsb' 0 7,
            value := rest.take n }
        if f.good then some f else none
  | _ => none

/-- R8: the code of an answer; its bitwise complement follows it. -/
def Answer.code : Answer → Byte
  | .ack => 6
  | .nak => 21
  | .busy => 19

/-- R9: the outcome of a confirmed frame from what was heard in its slot. -/
def heardOutcome (heard : Option (Byte × Byte)) : TxOutcome :=
  match heard with
  | some (c, d) =>
    if d != ~~~c then .unheard
    else if c == Answer.ack.code then .ack
    else if c == Answer.nak.code then .nak
    else if c == Answer.busy.code then .busy
    else .unheard
  | none => .unheard

/-- R9: the outcome of a transmitted frame. -/
def outcomeOf (k : Kind) (heard : Option (Byte × Byte)) : TxOutcome :=
  if k.confirmed then heardOutcome heard else .done

/-- R11: whether the device's frame loses to another started together: at the first differing bit the other's is 0. -/
def losesTo (own other : List Byte) : Bool :=
  match own, other with
  | a :: own', b :: other' => if a == b then losesTo own' other' else b.toNat < a.toNat
  | _, _ => false

/-! ### Numbers in requests and replies (R173) -/

/-- The byte at a position. -/
def u8 (b : List Byte) (i : Nat) : Nat := (b.getD i 0).toNat

/-- The 16-bit quantity at a position. -/
def u16 (b : List Byte) (i : Nat) : Nat := u8 b i * 256 + u8 b (i + 1)

/-- An optional byte: 255 for none. -/
def opt8 : Option Nat → List Byte
  | some n => [byteOf n]
  | none => [255]

/-- An optional 16-bit field: 65535 for none. -/
def opt16 : Option Nat → List Byte
  | some n => be16 n
  | none => [255, 255]

/-- An elapsed second that a 4-byte field carries; one that does not fit is a free value (log 16). -/
def second32 (n : Nat) : List Byte :=
  if n < 4294967296 then be32 n else be32 (Config.wideSecond n).toNat

/-- An optional elapsed second: all bits 1 for none; one whose 4 bytes would read as none, or that does not fit them, is a
free value (log 16). -/
def optSecond : Option Nat → List Byte
  | some n => if n = 4294967295 then be32 (Config.wideSecond n).toNat else second32 n
  | none => [255, 255, 255, 255]

/-- A signed quantity of 16 bits in two's complement. -/
def signed16 (n : Int) : List Byte := be16 (BitVec.ofInt 16 n).toNat

/-- A signed quantity of 32 bits in two's complement. -/
def signed32 (n : Int) : List Byte := be32 (BitVec.ofInt 32 n).toNat

/-- One byte for a yes or no. -/
def flag8 (b : Bool) : List Byte := [if b then 1 else 0]

/-- A zone set as one byte, bits 0–3 for Z0–Z3. -/
def zoneSetByte (set : PerZone Bool) : Nat :=
  set[0].toNat + 2 * set[1].toNat + 4 * set[2].toNat + 8 * set[3].toNat

/-- The zone set a byte carries in bits 0–3. -/
def zoneSetOf (n : Nat) : PerZone Bool :=
  #v[n.testBit 0, n.testBit 1, n.testBit 2, n.testBit 3]

/-- A list of zones as a set. -/
def memberSet (zs : List Zone) : PerZone Bool := forZones fun z => zs.contains z

/-- A weekday set as one byte, bits 0–6 for Monday to Sunday. -/
def weekdayByte (w : Vector Bool 7) : Nat :=
  w[0].toNat + 2 * w[1].toNat + 4 * w[2].toNat + 8 * w[3].toNat + 16 * w[4].toNat + 32 * w[5].toNat
    + 64 * w[6].toNat

/-- The weekday set a byte carries in bits 0–6. -/
def weekdaysOf (n : Nat) : Vector Bool 7 :=
  #v[n.testBit 0, n.testBit 1, n.testBit 2, n.testBit 3, n.testBit 4, n.testBit 5, n.testBit 6]

/-- Whether bits of a request that stand for nothing let it pass: they are all 0, or ignored in a request of this code at
this place of its arguments (log 13). -/
def spareOk (code place bits : Nat) : Bool := bits == 0 || !Config.spareBitsRefused code place bits

/-! ### Roles (R44) -/

/-- R44: roles that have a range map. -/
def Role.admitsMap : Role → Bool
  | .seatCount | .co2 | .lux | .sun => true
  | _ => false

/-- R44: the top of the engineering range of a role that is clamped to it. -/
def Role.top : Role → Nat
  | .seatCount => 400
  | .co2 => 5000
  | .lux => 20000
  | .sun => 1500
  | _ => 65535

/-- R44: whether a value length fits the role of an entry with this attachment. -/
def lengthFits (r : Role) (a : Attachment) (n : Nat) : Bool :=
  match r with
  | .motion | .door | .window | .projector | .partition | .wallKey => n == 1
  | .seatCount | .co2 | .lux =>
    match a with
    | .lanes _ => n == 2 || n == 4 || n == 6 || n == 8
    | _ => n == 2
  | .sun => n == 2
  | .override => n == 3
  | .clock => n == 4

/-- R46: a raw value under an optional range map and a role's clamp: the engineering value, and whether a clamp changed a
value. -/
def mapValue (m : Option RangeMap) (top raw : Nat) : Nat × Bool :=
  match m with
  | none => (min raw top, top < raw)
  | some m =>
    let c := clampNat m.sourceLow m.sourceHigh raw
    let v : Int := m.targetLow +
      roundHalfAway (((c : Int) - m.sourceLow) * ((m.targetHigh : Int) - m.targetLow)) (m.sourceHigh - m.sourceLow)
    let e := clampInt 0 top v
    (e.toNat, c != raw || e != v)

/-- R45, R58: what an arrival delivers besides its number: a scene request, an override, a time, or nothing. -/
inductive Delivery where
  | nothing
  | request (n : Nat)
  | override (mode : OverrideMode) (minutes : Nat)
  | time (t : WingTime)
  deriving DecidableEq, Repr

/-- R45: a decoded arrival of an entry that is no lane entry: its last value, its out_of_span mark, what it delivers. -/
structure Decoded where
  last : LastValue
  outOfSpan : Bool
  delivery : Delivery
  deriving DecidableEq, Repr

/-- R173: override modes by code. -/
def OverrideMode.ofCode : Nat → Option OverrideMode
  | 0 => some .auto
  | 1 => some .forceOccupied
  | 2 => some .forceVacant
  | _ => none

/-- R173: the code of an override mode. -/
def OverrideMode.code : OverrideMode → Nat
  | .auto => 0
  | .forceOccupied => 1
  | .forceVacant => 2

/-- R45: an arrival of an entry that is no lane entry. -/
def decodeValue (r : Role) (m : Option RangeMap) (b : List Byte) : Decoded :=
  match r with
  | .motion | .door | .window | .projector | .partition =>
    ⟨.number (if u8 b 0 = 0 then 0 else 1), 1 < u8 b 0, .nothing⟩
  | .wallKey =>
    if u8 b 0 ≤ 16 ∨ u8 b 0 = 255 then ⟨.number (u8 b 0), false, .request (u8 b 0)⟩
    else ⟨.bytes b, true, .nothing⟩
  | .seatCount | .co2 | .lux | .sun =>
    let v := mapValue m r.top (u16 b 0)
    ⟨.number v.1, v.2, .nothing⟩
  | .override =>
    match OverrideMode.ofCode (u8 b 0) with
    | some mode => ⟨.bytes b, 720 < u16 b 1, .override mode (min (u16 b 1) 720)⟩
    | none => ⟨.bytes b, true, .nothing⟩
  | .clock =>
    if u8 b 0 ≤ 6 ∧ u16 b 1 ≤ 1439 ∧ u8 b 3 ≤ 59 then
      ⟨.bytes b, false, .time ⟨u8 b 0, u16 b 1, u8 b 3⟩⟩
    else ⟨.bytes b, true, .nothing⟩

/-- R47: the lane values after a lane frame, and its out_of_span mark. -/
def decodeLanes (r : Role) (m : Option RangeMap) (b : List Byte) (old : PerZone (Option Nat)) :
    PerZone (Option Nat) × Bool :=
  let carried (k : Nat) : Bool := 2 * k + 1 < b.length
  let v (k : Nat) := mapValue m r.top (u16 b (2 * k))
  (forZones fun k => if carried k then some (v k).1 else old[k],
   allZones.any fun k => carried k && (v k).2)

/-! ### Outbound values (R157) -/

/-- R173: function codes. -/
def OutFunction.code : OutFunction → Nat
  | .airflow => 0
  | .thermalMode => 1
  | .lightWindow => 2
  | .lightMiddle => 3
  | .lightCorridor => 4
  | .lightBoard => 5
  | .blindHeight => 6
  | .blindSlat => 7

/-- R173: a function by its code. -/
def OutFunction.ofCode : Nat → Option OutFunction
  | 0 => some .airflow
  | 1 => some .thermalMode
  | 2 => some .lightWindow
  | 3 => some .lightMiddle
  | 4 => some .lightCorridor
  | 5 => some .lightBoard
  | 6 => some .blindHeight
  | 7 => some .blindSlat
  | _ => none

/-- R157: the frame priority of a function. -/
def OutFunction.priority : OutFunction → BitVec 2
  | .airflow | .thermalMode => 1
  | _ => 2

/-- R157, R184: the bit of a function's class in `hold_run_classes`. -/
def OutFunction.classBit : OutFunction → Nat
  | .airflow | .thermalMode => 0
  | .lightWindow | .lightMiddle | .lightCorridor | .lightBoard => 1
  | .blindHeight | .blindSlat => 2

/-- R146: the light function of a channel. -/
def channelFunction (c : Fin 4) : OutFunction :=
  match c.val with
  | 0 => .lightWindow
  | 1 => .lightMiddle
  | 2 => .lightCorridor
  | _ => .lightBoard

/-- R157: the value bytes of a function's frame. -/
def OutFunction.encode (f : OutFunction) (v : OutValue) : List Byte :=
  match f with
  | .airflow | .blindHeight | .blindSlat => be16 v.quantity
  | .thermalMode => [byteOf v.quantity]
  | _ => be16 v.quantity ++ [byteOf v.fade]

/-- R168: the value a driven frame carries to an entry of this function; bytes of another length leave it free (log 18). -/
def OutFunction.driven (f : OutFunction) (b : List Byte) : OutValue :=
  match f with
  | .airflow | .blindHeight | .blindSlat =>
    if b.length = 2 then ⟨u16 b 0, 0⟩
    else ⟨(Config.drivenValue f.code b).1, (Config.drivenValue f.code b).2⟩
  | .thermalMode =>
    if b.length = 1 then ⟨u8 b 0, 0⟩
    else ⟨(Config.drivenValue f.code b).1, (Config.drivenValue f.code b).2⟩
  | _ =>
    if b.length = 3 then ⟨u16 b 0, u8 b 2⟩
    else ⟨(Config.drivenValue f.code b).1, (Config.drivenValue f.code b).2⟩

/-- R157: whether two values differ beyond the deadband; for THERMAL_MODE, whether they differ at all. -/
def beyondDeadband (f : OutFunction) (deadband : Nat) (a b : OutValue) : Bool :=
  match f with
  | .thermalMode => a.quantity != b.quantity
  | _ => deadband < (a.quantity - b.quantity) + (b.quantity - a.quantity)

/-- R173: bytes of a reply, from one place up to another, that have nothing to carry (log 15). -/
def unstatedBytes (code key first stop : Nat) : List Byte :=
  (List.range (stop - first)).map fun k => Config.unstatedByte code (first + k) key

/-- R173: a 3-byte optional value at a place of READ_OUTPUT's reply: the value bytes of the function, or a first byte of 255
for none; what they leave of the 3 bytes is unstated (log 15). -/
def outValue3 (f : OutFunction) (index place : Nat) (v : Option OutValue) : List Byte :=
  let stated := match v with
    | some v => f.encode v
    | none => [255]
  stated ++ unstatedBytes 10 index (place + stated.length) (place + 3)

end Sys2Proof.Machine
end

