-- ==== Sys2Proof/Machine/Flags.lean ====
section
/-! DEFINITION. What the device computes from its state and does not store: apportionment, aggregates, effective partition
states, group fields formed from members, reports, report points, eligibility. -/

namespace Sys2Proof.Machine

/-! ### Zones and apportionment (R60, R78) -/

/-- R60: whether a zone is present. -/
def present (s : State) (z : Zone) : Bool := s.zones[z].isSome

/-- R60: the present zones, ascending. -/
def presentZones (s : State) : List Zone := allZones.filter (present s)

/-- R60: the area of a zone (0 for an absent zone, which takes no share). -/
def areaOf (s : State) (z : Zone) : Nat :=
  match s.zones[z] with
  | some c => c.area
  | none => 0

/-- R78: the number of list places whose remainder goes before that of place i. -/
def remainderRank (rems : List Nat) (i : Nat) : Nat :=
  ((List.range rems.length).filter fun j =>
    rems.getD i 0 < rems.getD j 0 || (rems.getD j 0 == rems.getD i 0 && j < i)).length

/-- R78: the shares of a total over areas in ascending zone order. -/
def apportion (n : Nat) (areas : List Nat) : List Nat :=
  let total := areas.sum
  let first := areas.map fun a => n * a / total
  let rems := areas.map fun a => n * a % total
  let left := n - first.sum
  (List.range areas.length).map fun i =>
    first.getD i 0 + if remainderRank rems i < left then 1 else 0

/-- R78: a zone's share when a total is apportioned over a list of zones. -/
def shareOf (s : State) (n : Nat) (zs : List Zone) (z : Zone) : Nat :=
  (apportion n (zs.map (areaOf s))).getD (zs.idxOf z) 0

/-! ### Aggregates (R52, R53) -/

/-- R52: what one entry delivers to a present zone. -/
def entryContribution (s : State) (e : PointEntry) (z : Zone) : List Nat :=
  match e.attachment with
  | .zones set =>
    if set[z] then
      match e.last with
      | some (.number n) =>
        [if e.role = some .seatCount then shareOf s n ((zonesOf set).filter (present s)) z else n]
      | _ => []
    else []
  | .lanes map =>
    allZones.flatMap fun k => if map[k] = some z then e.lanes[k].toList else []
  | _ => []

/-- R52: the LIVE contributions of a role to a zone. -/
def contributions (s : State) (r : Role) (z : Zone) : List Nat :=
  if present s z then
    s.points.flatMap fun e =>
      if e.role = some r ∧ e.supervision = .live then entryContribution s e z else []
  else []

/-- R52: the seat count of a zone. -/
def seatCount (s : State) (z : Zone) : Option Nat :=
  match contributions s .seatCount z with
  | [] => none
  | cs => some (min Config.headTop cs.sum)

/-- R52: the CO2 aggregate of a zone. -/
def co2Of (s : State) (z : Zone) : Option Nat :=
  match contributions s .co2 z with
  | [] => none
  | cs => some (cs.foldl max 0)

/-- R52: the lux aggregate of a zone. -/
def luxOf (s : State) (z : Zone) : Option Nat :=
  match contributions s .lux z with
  | [] => none
  | cs => some (cs.sum / cs.length)

/-- R53: the window-open aggregate of a zone. -/
def windowOpen (s : State) (z : Zone) : Bool := (contributions s .window z).any (· == 1)

/-- R53: the projector-on aggregate of a zone. -/
def projectorOn (s : State) (z : Zone) : Bool := (contributions s .projector z).any (· == 1)

/-- R52: the group seat-count sum; none when the group has no LIVE counters. -/
def seatSum (s : State) (members : List Zone) : Option Nat :=
  match members.filterMap (seatCount s) with
  | [] => none
  | cs => some (min Config.headTop cs.sum)

/-! ### Partitions and groups (R64, R66, R67) -/

/-- R64: whether partition P(k+1), between Zk and Z(k+1), is effectively open. -/
def partitionOpen (s : State) (k : Fin 3) : Bool :=
  match s.zones[k.castSucc] with
  | some c => c.partitionToNext && s.partitions[k] == some false
  | none => false

/-- R66: whether a zone is joined to the zone below it. -/
def joinedBelow (s : State) (z : Zone) : Bool :=
  match z.val with
  | 0 => false
  | 1 => partitionOpen s 0
  | 2 => partitionOpen s 1
  | _ => partitionOpen s 2

/-- R66: one zone joins the runs formed below it. -/
def addZone (s : State) (runs : List (List Zone)) (z : Zone) : List (List Zone) :=
  if !present s z then runs
  else if joinedBelow s z then
    match runs.reverse with
    | last :: before => before.reverse ++ [last ++ [z]]
    | [] => [[z]]
  else runs ++ [[z]]

/-- R66: the members of each group the present zones and effective partition states form. -/
def groupRuns (s : State) : List (List Zone) := allZones.foldl (addZone s) []

/-- R66: the leader and record of the group that holds a zone. -/
def groupOf (s : State) (z : Zone) : Option (Zone × Group) :=
  allZones.findSome? fun l =>
    match s.groups[l] with
    | some g => if g.members.contains z then some (l, g) else none
    | none => none

/-- R67: the effective override of a set of members. -/
def effectiveOverride (s : State) (members : List Zone) : OverrideMode :=
  if members.any fun z => s.overrides[z].mode == .forceOccupied then .forceOccupied
  else if members.any fun z => s.overrides[z].mode == .forceVacant then .forceVacant
  else .auto

/-- R67: the override expiry of a set of members. -/
def effectiveExpiry (s : State) (members : List Zone) : Option Nat :=
  let mode := effectiveOverride s members
  if mode = .auto then none
  else
    let ovs := (members.map fun z => s.overrides[z]).filter fun o => o.mode == mode
    if ovs.any fun o => o.expiry == none then none
    else ovs.foldl (fun acc o => laterOf acc o.expiry) none

/-- R67: the presentation flag of a set of members. -/
def presentationOf (s : State) (members : List Zone) : Bool := members.any (projectorOn s)

/-- R99: a group is booked. -/
def Group.booked (g : Group) : Bool := g.members.any fun z => g.booking.list[z].isSome

/-- R99: a group has an upcoming booking. -/
def Group.hasUpcoming (g : Group) : Bool := g.booking.upcoming.isSome

/-- R106, R116: the active booking id of the lowest member that has one, or 0. -/
def Group.reportedBooking (g : Group) : Nat :=
  (g.members.findSome? fun z => g.booking.list[z]).getD 0

/-- R113: the head count estimate of an OCCUPIED group. -/
def occupiedCount (s : State) (g : Group) : Nat :=
  match seatSum s g.members with
  | some n => n
  | none =>
    if g.booked then min Config.headTop g.booking.expected
    else min Config.headTop ((g.members.map fun z =>
      match s.zones[z] with
      | some c => c.walkIn
      | none => 0).sum)

/-! ### Bookings (R86, R87) -/

/-- R87: the bookings of a page. -/
def State.page (s : State) : Page → List Booking
  | .a => s.pageA
  | .b => s.pageB

/-- R87: the page that is not ACTIVE. -/
def State.standbyPage (s : State) : Page :=
  match s.activePage with
  | .a => .b
  | .b => .a

/-- R87: the bookings of the ACTIVE page. -/
def State.activeBookings (s : State) : List Booking := s.page s.activePage

/-- R87: the bookings of the STANDBY page. -/
def State.standbyBookings (s : State) : List Booking := s.page s.standbyPage

/-- R87: the booking of an id on a page. -/
def findBooking (page : List Booking) (id : Nat) : Option Booking := page.find? fun b => b.id == id

/-! ### Frames of the device (R4, R14, R43) -/

/-- R7, R15: a frame the device sends as its own. -/
def ownFrame (s : State) (kind : Kind) (priority : BitVec 2) (target : PointCode) (toggle : Bool)
    (value : List Byte) : Frame where
  priority := priority
  kind := kind
  hop := 6
  originLine := s.address.trunkLine
  originNode := s.address.node
  target := target
  toggle := toggle
  spare := 0
  value := value

/-- R43, R116: the group status point of a leader. -/
def statusCode (s : State) (z : Zone) : PointCode := BitVec.ofNat 12 (s.params.statusBase + z.val)

/-- R43: the notice point. -/
def noticeCode (s : State) : PointCode := BitVec.ofNat 12 s.params.noticePoint

/-- R24, R43: whether a code is one of the five report point codes. -/
def isReportPoint (s : State) (c : PointCode) : Bool :=
  c == noticeCode s || allZones.any fun z => c == statusCode s z

/-- R116: occupancy state codes. -/
def Occupancy.code : Occupancy → Nat
  | .vacant => 0
  | .prepare => 1
  | .expected => 2
  | .occupied => 3
  | .holdover => 4
  | .noShow => 5

/-- R116: the value of a group status report. -/
def Group.report (g : Group) : List Byte :=
  [byteOf g.state.code, byteOf (zoneSetByte (memberSet g.members))] ++ be16 g.headCount
    ++ be16 g.reportedBooking ++ [byteOf g.effOverride.code]

/-- R116: the frame of a group status report. -/
def reportFrame (s : State) (leader : Zone) (g : Group) : Frame :=
  ownFrame s .state 2 (statusCode s leader) false g.report

/-- R180: the frame of a notice. -/
def noticeFrame (s : State) (k : NoticeKind) : Frame :=
  ownFrame s .state 2 (noticeCode s) false
    (byteOf k.code.val :: be24 (((s.notice k).detail.getD 0).toNat))

/-- R180: the notice flags as bits 0–11. -/
def noticeFlags (s : State) : Nat :=
  (allNotices.map fun k => if (s.notice k).flag then 2 ^ k.code.val else 0).sum

/-! ### Point table and outbound table (R21, R157, R162) -/

/-- R21: the entry of a code. -/
def findPoint (s : State) (c : PointCode) : Option PointEntry := s.points.find? fun e => e.code == c

/-- R157: the entry at a table index. -/
def findOutput (s : State) (i : OutIndex) : Option OutEntry := s.outputs.find? fun e => e.index == i

/-- R168, R188: the entry of a point code. -/
def outputOfCode (s : State) (c : PointCode) : Option OutEntry := s.outputs.find? fun e => e.code == c

/-- R188: whether a drive is in flight on a point code. -/
def drivenCode (s : State) (c : PointCode) : Bool :=
  match s.drive with
  | some d => d.frame.target == c
  | none => false

/-- R184: whether a function's class lets its entries run now. -/
def classRuns (s : State) (f : OutFunction) : Bool :=
  !s.hold || s.params.holdRunClasses.testBit f.classBit

/-- R162: whether an entry is eligible for the room queue. -/
def eligible (s : State) (e : OutEntry) : Bool :=
  e.state == .pending && s.room.up && !drivenCode s e.code && classRuns s e.function

/-- R160, R161: whether an entry's frame is in the room queue and WAITING. -/
def frameWaiting (s : State) (i : OutIndex) : Bool :=
  s.room.queue.any fun q => q.owner == .output i && !q.sending

/-! ### Wing time (R81, R84) -/

/-- R81: the wing minute of a wing time. -/
def WingTime.wingMinute (t : WingTime) : Nat := t.weekday * 1440 + t.minute

/-- R84: the second of the week of a wing time. -/
def WingTime.weekSecond (t : WingTime) : Nat := t.wingMinute * 60 + t.second

end Sys2Proof.Machine
end

