-- ==== Sys2Proof/Machine/Outbound.lean ====
section
/-! DEFINITION. The outbound command table (chapter 9): taking a computed value, admission, outcomes, timers, resets, and
what a drive does to an entry. -/

namespace Sys2Proof.Machine

/-- The state with the entry at an index changed. -/
def updateOutput (i : OutIndex) (f : OutEntry → OutEntry) (s : State) : State :=
  { s with outputs := s.outputs.map fun e => if e.index = i then f e else e }

/-- Whether a value differs beyond the deadband from an optional one (from none it always does). -/
def OutEntry.beyond (e : OutEntry) (v : OutValue) (held : Option OutValue) : Bool :=
  match held with
  | some h => beyondDeadband e.function e.deadband v h
  | none => true

/-- R161: an entry becomes PENDING; its timer is cancelled (R166). -/
def OutEntry.pend (e : OutEntry) : OutEntry := { e with state := .pending, timer := none }

/-- R161: an entry takes a computed value; `waiting` says that its frame is WAITING. -/
def OutEntry.take (e : OutEntry) (waiting : Bool) (v : OutValue) : OutEntry :=
  let e' := { e with computed := some v }
  match e.state with
  | .idle => e'.pend
  | .pending => e'
  | .queued =>
    if waiting && !e.exposed then { e' with sent := some v } else { e' with next := some v }
  | .backoff => if e.exposed then { e' with next := some v } else e'
  | .unanswered => if e.exposed then { e' with next := some v } else e'
  | .confirmed => if e.beyond v e.confirmed then e'.pend else e'
  | .refused =>
    match e.sent with
    | some x => if v.quantity != x.quantity then e'.pend else e'
    | none => e'.pend

/-- R161: whether an entry is one of a zone and function. -/
def OutEntry.isFor (e : OutEntry) (z : Zone) (f : OutFunction) : Bool := e.zone == z && e.function == f

/-- R12, R161: the value of a WAITING frame of an entry of this zone and function that is not exposed is replaced in place. -/
def replaceQueued (s : State) (z : Zone) (f : OutFunction) (v : OutValue) (q : Queued) : Queued :=
  match q.owner with
  | .output i =>
    match findOutput s i with
    | some e =>
      if e.isFor z f && e.state == .queued && !e.exposed && !q.sending then
        { q with frame := { q.frame with value := f.encode v } }
      else q
    | none => q
  | _ => q

/-- R133, R135, R147, R161: a computed value is handed to each entry of a zone and function. -/
def handTo (z : Zone) (f : OutFunction) (v : OutValue) (s : State) : State :=
  { s with
    outputs := s.outputs.map fun e => if e.isFor z f then e.take (frameWaiting s e.index) v else e,
    room := { s.room with queue := s.room.queue.map (replaceQueued s z f v) } }

/-- R162, R163: the value R162 selects for the next frame of an entry. -/
def OutEntry.selected (e : OutEntry) : Option OutValue := if e.exposed then e.sent else e.computed

/-- R162, R163: the value the next frame of an entry carries; where the entry holds none, the n-th free value (log 33). -/
def OutEntry.frameValue (n : Nat) (e : OutEntry) : OutValue :=
  match e.selected with
  | some v => v
  | none => ⟨(Config.uncomputedValue n).1, (Config.uncomputedValue n).2⟩

/-- R162: an entry whose frame has been admitted. -/
def OutEntry.admitted (n : Nat) (e : OutEntry) : OutEntry :=
  { e with state := .queued, sent := some (e.frameValue n), timer := none }

/-- R157: the frame of an entry with the value it carries. -/
def outputFrame (s : State) (e : OutEntry) (v : OutValue) : Frame :=
  ownFrame s .command e.function.priority e.code e.toggle (e.function.encode v)

/-- Log 33: the counter of free values after the admission of an entry. -/
def freeAfter (s : State) (e : OutEntry) : Nat := if e.selected.isSome then s.free else s.free + 1

/-- R162: the arbiter offers one entry where it is eligible. -/
def admitOutput (s : State) (i : OutIndex) : State :=
  match findOutput s i with
  | some e =>
    if eligible s e then
      match offer .room (outputFrame s e (e.frameValue s.free)) (.output i) false s with
      | some s' => { updateOutput i (OutEntry.admitted s.free) s' with free := freeAfter s e }
      | none => s
    else s
  | none => s

/-- R162: the order in which the arbiter chooses: priority 1 before 2, then the table index. -/
def arbiterOrder (s : State) : List OutIndex :=
  ((s.outputs.filter fun e => e.function.priority == 1) ++ (s.outputs.filter fun e => e.function.priority != 1)).map
    (·.index)

/-- R162: the arbiter repeats its choice until no entry is eligible or the queue is full. -/
def arbiter (s : State) : State := (arbiterOrder s).foldl admitOutput s

/-! ### Outcomes (R164, R165) -/

/-- R164: what ACK and NAK do alike. -/
def OutEntry.flip (e : OutEntry) : OutEntry :=
  { e with toggle := !e.toggle, exposed := false, retries := 0, busies := 0 }

/-- R164, R167: the refresh time from a second. -/
def OutEntry.refreshTimer (e : OutEntry) (t : Nat) : Option Nat :=
  if e.refresh = 0 then none else some (t + e.refresh)

/-- R164: ACK. -/
def OutEntry.acked (e : OutEntry) (t : Nat) : OutEntry :=
  let e' := { e.flip with confirmed := e.sent, next := none }
  match e.computed with
  | some c => if e.beyond c e.sent then e'.pend else { e' with state := .confirmed, timer := e.refreshTimer t }
  | none => { e' with state := .confirmed, timer := e.refreshTimer t }

/-- R164: whether the next value differs in its compared quantity from the sent value. -/
def OutEntry.nextDiffers (e : OutEntry) : Bool :=
  match e.next with
  | none => false
  | some n =>
    match e.sent with
    | some x => n.quantity != x.quantity
    | none => true

/-- R164: NAK. -/
def OutEntry.naked (e : OutEntry) : OutEntry :=
  { e.flip with next := none, timer := none, state := if e.nextDiffers then .pending else .refused }

/-- R165: NONE. -/
def OutEntry.unheard (e : OutEntry) (t : Nat) : OutEntry :=
  let e' := { e with retries := e.retries + 1, exposed := true, busies := 0 }
  if e.retries + 1 < 4 then { e' with state := .backoff, timer := some (t + Config.backoffTime) }
  else { e' with state := .unanswered, timer := some (t + Config.reattemptTime) }

/-- R165: BUSY. -/
def OutEntry.busied (e : OutEntry) (t : Nat) : OutEntry :=
  let e' := { e with busies := e.busies + 1 }
  if e.busies + 1 < 10 then { e' with state := .backoff, timer := some (t + Config.backoffTime) }
  else { e' with state := .unanswered, timer := some (t + Config.reattemptTime) }

/-- R164, R165: an entry after the outcome of its frame. -/
def OutEntry.outcome (e : OutEntry) (t : Nat) : TxOutcome → OutEntry
  | .ack => e.acked t
  | .nak => e.naked
  | .unheard => e.unheard t
  | .busy => e.busied t
  | .done => e

/-- R164, R165: the notice an outcome raises. -/
def OutEntry.outcomeNotice (e : OutEntry) : TxOutcome → Option NoticeKind
  | .nak => some .actuatorRefused
  | .unheard => if e.retries + 1 < 4 then none else some .actuatorUnanswered
  | .busy => if e.busies + 1 < 10 then none else some .actuatorUnanswered
  | .ack => none
  | .done => none

/-- R164, R165: the outcome of a frame reaches its entry. -/
def outputOutcome (i : OutIndex) (o : TxOutcome) (s : State) : State :=
  match findOutput s i with
  | none => s
  | some e =>
    let s' := updateOutput i (fun e => e.outcome s.elapsed o) s
    match e.outcomeNotice o with
    | some k => raise k (detail16 e.code.toNat) s'
    | none => s'

/-- R2, R167: an entry whose frame is withdrawn returns from QUEUED to PENDING, its toggle unchanged. -/
def outputWithdrawn (i : OutIndex) (s : State) : State := updateOutput i OutEntry.pend s

/-! ### Timers (R166) -/

/-- R166: the end of a backoff. -/
def OutEntry.backoffEnds (e : OutEntry) (t : Nat) : OutEntry :=
  if e.state = .backoff ∧ reached e.timer t then e.pend else e

/-- R166: the re-attempt time. -/
def OutEntry.reattempts (e : OutEntry) (t : Nat) : OutEntry :=
  if e.state = .unanswered ∧ reached e.timer t then { e.pend with retries := 0, busies := 0 } else e

/-- R166: the refresh time. -/
def OutEntry.refreshes (e : OutEntry) (t : Nat) : OutEntry :=
  if e.state = .confirmed ∧ reached e.timer t then e.pend else e

/-! ### Resets and drives (R160, R167, R168) -/

/-- R160: an entry after a soft reset, and an entry just loaded. -/
def OutEntry.restart (e : OutEntry) : OutEntry :=
  { e with state := .idle, toggle := false, exposed := false, computed := none, sent := none, confirmed := none,
           next := none, retries := 0, busies := 0, timer := none }

/-- R167: an entry after a room reset. -/
def OutEntry.roomReset (e : OutEntry) : OutEntry :=
  { e with state := if e.computed.isSome then .pending else .idle, toggle := false, exposed := false, sent := none,
           confirmed := none, next := none, retries := 0, busies := 0, timer := none }

/-- R168: a drive's ACK at the entry of its code. -/
def OutEntry.driveAcked (e : OutEntry) (v : OutValue) (t : Nat) : OutEntry :=
  let e' := { e.flip with sent := some v, confirmed := some v, next := none }
  match e.computed with
  | some c =>
    if e.beyond c (some v) then e'.pend else { e' with state := .confirmed, timer := e.refreshTimer t }
  | none => { e' with state := .confirmed, timer := e.refreshTimer t }

/-- R168: a drive's outcome at the entry of its code. -/
def OutEntry.driven (e : OutEntry) (value : List Byte) (t : Nat) : TxOutcome → OutEntry
  | .ack => e.driveAcked (e.function.driven value) t
  | .nak => { e with toggle := !e.toggle, exposed := false }
  | .busy => e
  | .unheard => e
  | .done => e

end Sys2Proof.Machine
end

