-- ==== Sys2Proof/Machine/Offers.lean ====
section
/-! DEFINITION. The offers the device's own blocks make at the end of an event (R13, R162, R169, R171, R181, R188), and the
end of a drive (R189). -/

namespace Sys2Proof.Machine

/-! ### Replies (R171, R172) -/

/-- R172: result codes. -/
inductive Result where
  | ok | malformed | outOfRange | tableFull | duplicate | overlap | notFound | needsHold | inUse
  deriving DecidableEq, Repr

/-- R172: the code of a result. -/
def Result.code : Result → Byte
  | .ok => 0
  | .malformed => 1
  | .outOfRange => 2
  | .tableFull => 3
  | .duplicate => 4
  | .overlap => 5
  | .notFound => 6
  | .needsHold => 7
  | .inUse => 8

/-- R171: a MANAGE_REPLY to a requester. -/
def replyFrame (s : State) (line : BitVec 4) (node : Byte) (priority : BitVec 2) (code : Byte) (r : Result)
    (data : List Byte) : Frame :=
  ownFrame s .manageReply priority (line ++ node) false (code :: r.code :: data)

/-- R173: the outcome codes of a DRIVE_POINT reply. -/
def driveOutcomeCode : TxOutcome → Byte
  | .ack => 0
  | .nak => 1
  | .busy => 2
  | .unheard => 3
  | .done => 3

/-! ### The offers -/

/-- R171: the deferred reply is offered to a port's queue when it is built for that port. -/
def offerDeferred (p : Port) (s : State) : State :=
  match s.deferred with
  | some d =>
    match d.outcome with
    | some o =>
      if d.port = p then
        match offer p (replyFrame s d.line d.node d.priority 26 .ok [driveOutcomeCode o]) .reply false s with
        | some s' => { s' with deferred := none }
        | none => s
      else s
    | none => s
  | none => s

/-- R181: a pending notice is built and offered. -/
def offerNotice (s : State) (k : NoticeKind) : State :=
  if (s.notice k).pending then
    match offer .trunk (noticeFrame s k) (.notice k) false s with
    | some s' => s'.withNotice k { s'.notice k with pending := false }
    | none => s
  else s

/-- R181: the pending notices in ascending kind code. -/
def offerNotices (s : State) : State := allNotices.foldl offerNotice s

/-- R117: a pending group status report is built and offered. -/
def offerReport (s : State) (l : Zone) : State :=
  match s.groups[l] with
  | some g =>
    if g.reportPending then
      match offer .trunk (reportFrame s l g) (.report l) false s with
      | some s' => { s' with groups := s'.groups.set l (some { g with reportPending := false }) }
      | none => s
    else s
  | none => s

/-- R117: the pending reports in ascending leader. -/
def offerReports (s : State) : State := allZones.foldl offerReport s

/-- R188: the DRIVE slot offers its frame where it is not yet in the room queue. -/
def offerDrive (s : State) : State :=
  match s.drive with
  | some d =>
    if d.queued then s
    else
      match offer .room d.frame .drive false s with
      | some s' => { s' with drive := some { d with queued := true } }
      | none => s
  | none => s

/-- R181: the trunk-queue offers of an event: the deferred reply, notices, reports. -/
def settleTrunk (s : State) : State := offerReports (offerNotices (offerDeferred .trunk s))

/-- R188: whether the DRIVE slot or a deferred reply waits for a place of the room queue. -/
def otherRoomOffer (s : State) : Bool :=
  (match s.drive with
    | some d => !d.queued
    | none => false)
  || (match s.deferred with
    | some d => d.outcome.isSome && d.port == .room
    | none => false)

/-- R162, R188: whether the arbiter and another own offer both want a place that is there (log 7). -/
def roomContended (s : State) : Bool :=
  otherRoomOffer s && admits .room false s && s.outputs.any (eligible s)

/-- The room-queue offers of the DRIVE slot and the management responder. -/
def offerOthers (s : State) : State := offerDrive (offerDeferred .room s)

/-- R162, R188: the room-queue offers of an event; where the arbiter and another owner both want a place, which offer is
taken first is a free value (log 7). -/
def settleRoom (s : State) : State :=
  if roomContended s then
    if Config.arbiterFirst s.free then offerOthers (arbiter { s with free := s.free + 1 })
    else arbiter (offerOthers { s with free := s.free + 1 })
  else arbiter (offerOthers s)

/-- The offers that end every event, made once (log 6). -/
def settle (s : State) : State := settleRoom (settleTrunk s)

/-! ### The end of a drive (R168, R189) -/

/-- R189: the drive ends with an outcome: the slot empties, the entry of its code or the drive toggle takes the outcome,
and the deferred reply is built. -/
def endDrive (o : TxOutcome) (s : State) : State :=
  match s.drive with
  | none => s
  | some d =>
    let s1 : State :=
      match outputOfCode s d.frame.target with
      | some e => updateOutput e.index (fun e => e.driven d.frame.value s.elapsed o) s
      | none => if o == TxOutcome.ack || o == TxOutcome.nak then { s with driveToggle := !s.driveToggle } else s
    { s1 with drive := none, deferred := s1.deferred.map fun (r : DeferredReply) => { r with outcome := some o } }

end Sys2Proof.Machine
end

