-- ==== Sys2Proof/Machine/Air.lean ====
section
/-! DEFINITION. The air demand unit (chapter 7): the stages of an evaluation, periodic and prompt evaluations. -/

namespace Sys2Proof.Machine

/-- R128: states in which the integrator may apply. -/
def Occupancy.isOccupied : Occupancy → Bool
  | .occupied | .holdover => true
  | _ => false

/-- R126: the base demand of a zone of an area with a head count, dl/s. -/
def baseDemand (p : Params) (headCount area : Nat) : Nat :=
  headCount * p.qPerson + roundHalfUp (area * p.qArea) 10

/-- R127: the effective CO2 error of an aggregate, ppm. -/
def effectiveError (p : Params) (co2 : Option Nat) : Int :=
  match co2 with
  | none => 0
  | some v =>
    let e := clampInt (-2000) 2000 ((v : Int) - p.cSet)
    if e.natAbs ≤ Config.co2Deadband then 0 else e

/-- R128: the lower bound of the integrator, ml/s. -/
def integratorLow (c : ZoneConfig) (dBase : Nat) : Int := ((c.dMinOcc : Int) - dBase) * 100

/-- R128: the upper bound of the integrator, ml/s. -/
def integratorHigh (c : ZoneConfig) (dBase : Nat) : Int := ((c.dMax : Int) - dBase) * 100

/-- R128, R123: the raw new value of the integrator. -/
def integratorRaw (p : Params) (periodic : Bool) (i eEff : Int) : Int :=
  if periodic then i + p.kI * eEff else i

/-- R128, R130: the integrator after an evaluation. -/
def integratorNext (p : Params) (c : ZoneConfig) (state : Occupancy) (window periodic : Bool) (dBase : Nat)
    (eEff i : Int) : Int :=
  if state.isOccupied then
    if window then i
    else clampInt (integratorLow c dBase) (integratorHigh c dBase) (integratorRaw p periodic i eEff)
  else
    match state with
    | .expected | .prepare => i
    | _ => 0

/-- R129, R130: the LIMITED flag after an evaluation. -/
def limitedNext (p : Params) (c : ZoneConfig) (state : Occupancy) (window periodic : Bool) (dBase : Nat)
    (eEff i : Int) (limited : Bool) : Bool :=
  if state.isOccupied then
    if window then limited
    else integratorRaw p periodic i eEff !=
      clampInt (integratorLow c dBase) (integratorHigh c dBase) (integratorRaw p periodic i eEff)
  else
    match state with
    | .expected | .prepare => limited
    | _ => false

/-- R131: the target, dl/s. `dwelled` says that the zone's window has been open for at least 120 s. -/
def airTarget (p : Params) (c : ZoneConfig) (state : Occupancy) (dwelled : Bool) (dBase : Nat) (i : Int) : Nat :=
  if dwelled then c.dMinUnocc
  else
    match state with
    | .occupied | .holdover => (clampInt c.dMinOcc c.dMax (dBase + roundHalfAway i 100)).toNat
    | .expected => clampNat c.dMinOcc c.dMax dBase
    | .prepare => min c.dMax (roundHalfUp (c.dMax * p.purge) 100)
    | .vacant | .noShow => c.dMinUnocc

/-- R132: the distance the rate limit allows. -/
def rateMove (target dOut allowance : Nat) : Nat := min ((target - dOut) + (dOut - target)) allowance

/-- R132: D_out after the move. -/
def rateLimited (target dOut allowance : Nat) : Nat :=
  if dOut ≤ target then dOut + rateMove target dOut allowance else dOut - rateMove target dOut allowance

/-- R123: the step allowance an evaluation starts with. -/
def startAllowance (p : Params) (periodic : Bool) (allowance : Nat) : Nat :=
  if periodic then p.rStep else min allowance p.rStep

/-- R133: the airflow command, per-mille. -/
def airflowCommand (dOut dMax : Nat) : Nat := roundHalfUp (dOut * 1000) dMax

/-- R131, R134, R136: whether the zone's window has been open for at least the dwell. -/
def windowDwelled (s : State) (z : Zone) : Bool :=
  windowOpen s z &&
    (match s.evidence[z].windowOpenedAt with
      | some a => a + Config.windowDwell ≤ s.elapsed
      | none => false)

/-- R134: the thermal mode. -/
def thermalMode (s : State) (g : Group) (dwelled : Bool) : Thermal :=
  if dwelled then .protect
  else
    match g.state with
    | .occupied | .holdover | .expected | .prepare => .comfort
    | .noShow => .standby
    | .vacant =>
      if s.clock.isNone then .standby
      else if g.members.any fun z => s.views[z].toNext.isSome then .standby
      else .economy

/-- R134: the value of a thermal mode. -/
def Thermal.code : Thermal → Nat
  | .comfort => 0
  | .standby => 1
  | .economy => 2
  | .protect => 3

/-- R125: the air record after an evaluation of a zone with this configuration and group. -/
def airStages (s : State) (periodic : Bool) (z : Zone) (c : ZoneConfig) (g : Group) : AirRecord :=
  let r := s.air[z]
  let window := windowOpen s z
  let dwelled := windowDwelled s z
  let dBase := baseDemand s.params (shareOf s g.headCount g.members z) c.area
  let eEff := effectiveError s.params (co2Of s z)
  let i := integratorNext s.params c g.state window periodic dBase eEff r.integrator
  let target := airTarget s.params c g.state dwelled dBase i
  let allowance := startAllowance s.params periodic r.allowance
  let dOut := rateLimited target r.dOut allowance
  { integrator := i
    limited := limitedNext s.params c g.state window periodic dBase eEff r.integrator r.limited
    dOut := dOut
    allowance := allowance - rateMove target r.dOut allowance
    dTarget := some target
    command := some (airflowCommand dOut c.dMax)
    thermal := some (thermalMode s g dwelled)
    dBase := dBase
    eEff := eEff }

/-- R125, R133, R135: an evaluation of one zone: the record is written and the values are handed. -/
def airEvaluate (periodic : Bool) (s : State) (z : Zone) : State :=
  match s.zones[z], groupOf s z with
  | some c, some (_, g) =>
    let r := airStages s periodic z c g
    handTo z .thermalMode ⟨(r.thermal.getD .comfort).code, 0⟩
      (handTo z .airflow ⟨r.command.getD 0, 0⟩ { s with air := s.air.set z r })
  | _, _ => s

/-- R121, R122, R129: evaluations of zones in one event. AIR_LIMITED is raised for each whose LIMITED goes from clear to
set; where there are several, which raise comes last is free (log 8). -/
def airEvaluateZones (periodic : Bool) (zs : List Zone) (s : State) : State :=
  let s' := zs.foldl (airEvaluate periodic) s
  raiseOneOf .airLimited
    ((zs.filter fun z => !s.air[z].limited && s'.air[z].limited).map fun z => detail8 z.val) s'

end Sys2Proof.Machine
end

