-- ==== Sys2Proof/Machine/Light.lean ====
section
/-! DEFINITION. The light and shade unit (chapter 8): selection, scene changes, the daylight loop, the sun record, blinds. -/

namespace Sys2Proof.Machine

/-! ### Scenes (R138, R143) -/

/-- R138: the OFF content. -/
def offContent : Scene := ⟨Vector.replicate 4 (.fixed 0), none, none, 0⟩

/-- R138: the content a selection takes. -/
def content (s : State) : Selection → Scene
  | .off => offContent
  | .scene n => ((s.scenes.toList.getD (n - 1) none)).getD offContent

/-- R140: a slot of 0 selects OFF. -/
def slotSelection (n : Nat) : Selection := if n = 0 then .off else .scene n

/-- R140: a profile by its number. -/
def State.profile (s : State) (n : Nat) : Profile := s.profiles.toList.getD n ⟨0, 0, 0, 0, 0⟩

/-- R143: the selection of a group. -/
def selection (s : State) (g : Group) : Selection :=
  match g.state with
  | .vacant | .prepare | .expected | .noShow => .off
  | .holdover => slotSelection (s.profile g.booking.profile).dim
  | .occupied =>
    match g.manualScene with
    | some m => m
    | none =>
      if g.booking.session = some .exam then slotSelection (s.profile g.booking.profile).exam
      else if g.presentation then slotSelection (s.profile g.booking.profile).present
      else if g.booked then slotSelection (s.profile g.booking.profile).arrival
      else slotSelection (s.profile 0).unbooked

/-! ### Blinds (R149 to R152) -/

/-- R149: the blind target of a zone. -/
def blindTargetOf (s : State) (z : Zone) : Option BlindPosition :=
  match s.zones[z], s.light[z].scene with
  | some c, some sel =>
    if c.facade then
      some ⟨(content s sel).height.getD (if s.sun.high then s.params.glareHeight else 0),
            (content s sel).slat.getD (if s.sun.high then s.params.glareSlat else 0)⟩
    else none
  | _, _ => none

/-- The state with a zone's light record changed. -/
def updateLight (z : Zone) (f : LightRecord → LightRecord) (s : State) : State :=
  { s with light := s.light.set z (f s.light[z]) }

/-- R150: a send is pending. -/
def LightRecord.sendPending (r : LightRecord) : Bool :=
  match r.blindTarget with
  | some t => r.blindSent != some t
  | none => false

/-- R150: the spacing has ended. -/
def spacingEnded (s : State) (r : LightRecord) : Bool :=
  match r.lastSend with
  | some l => l + s.params.blindSpacing ≤ s.elapsed
  | none => true

/-- R151: a send is inhibited by an open window. -/
def sendInhibited (s : State) (z : Zone) (r : LightRecord) : Bool :=
  windowOpen s z &&
    (match r.blindTarget with
      | some t => (r.blindSent.map (·.height)).getD 0 < t.height
      | none => false)

/-- R152: the motion estimate of a send to a height. -/
def motionEstimate (p : Params) (sent : Option BlindPosition) (height : Nat) : Nat :=
  match sent with
  | none => p.blindTravel
  | some o => roundHalfUp (p.blindTravel * ((height - o.height) + (o.height - height))) 1000

/-- R152: the motion end after a send. -/
def motionAfter (motionEnd : Option Nat) (t estimate : Nat) : Option Nat :=
  match motionEnd with
  | some m => some (max m (t + estimate))
  | none => if estimate = 0 then none else some (t + estimate)

/-- R150: a blind send of a target. -/
def blindSend (z : Zone) (t : BlindPosition) (s : State) : State :=
  handTo z .blindSlat ⟨t.slat, 0⟩ (handTo z .blindHeight ⟨t.height, 0⟩
    (updateLight z (fun r =>
      { r with blindSent := some t, lastSend := some s.elapsed,
               motionEnd := motionAfter r.motionEnd s.elapsed (motionEstimate s.params r.blindSent t.height) }) s))

/-- R150, R151: a pending send is made where the spacing has ended and no open window inhibits it. -/
def testBlind (z : Zone) (s : State) : State :=
  let r := s.light[z]
  match r.blindTarget with
  | some t =>
    if r.sendPending && spacingEnded s r && !sendInhibited s z r then blindSend z t s else s
  | none => s

/-- R149, R150: the blind target of a zone is recomputed and the pending send tested. -/
def recomputeBlind (z : Zone) (s : State) : State :=
  testBlind z (updateLight z (fun r => { r with blindTarget := blindTargetOf s z }) s)

/-! ### Scene changes (R146) and selection (R144) -/

/-- R146: the level a channel setting gives at a scene change. -/
def ChannelSetting.startLevel : ChannelSetting → Nat
  | .fixed l => l
  | .daylight _ _ start => start

/-- R146: whether a channel setting is DAYLIGHT. -/
def ChannelSetting.isDaylight : ChannelSetting → Bool
  | .fixed _ => false
  | .daylight _ _ _ => true

/-- R146: one channel's level is handed with the content's fade. -/
def handChannel (z : Zone) (fade : Nat) (s : State) (c : Fin 4) : State :=
  handTo z (channelFunction c) ⟨s.light[z].levels[c], fade⟩ s

/-- R146: a scene change of a zone. -/
def sceneChange (z : Zone) (sel : Selection) (s : State) : State :=
  let k := content s sel
  let s1 := updateLight z (fun r =>
    { r with scene := some sel, modes := forZones fun c => k.channels[c].isDaylight,
             levels := forZones fun c => k.channels[c].startLevel, fadeEnd := some (s.elapsed + k.fade) }) s
  recomputeBlind z (allZones.foldl (handChannel z k.fade) s1)

/-- R144: whether the manual scene of a group is cleared before its selection: the group is neither OCCUPIED nor HOLDOVER,
or `clear` (a booking started, or it entered OCCUPIED from a state other than HOLDOVER). -/
def clearsManual (g : Group) (clear : Bool) : Bool := clear || !g.state.isOccupied

/-- R144: one member takes a scene change where its scene in force differs, or always when `force`. -/
def selectMember (sel : Selection) (force : Bool) (s : State) (z : Zone) : State :=
  if force || s.light[z].scene != some sel then sceneChange z sel s else s

/-- R144: a group is selected afresh. -/
def selectGroup (l : Zone) (clear force : Bool) (s : State) : State :=
  match s.groups[l] with
  | none => s
  | some g =>
    let g' := if clearsManual g clear then { g with manualScene := none } else g
    let s1 := { s with groups := s.groups.set l (some g') }
    g'.members.foldl (selectMember (selection s1 g') force) s1

/-- R145: what a scene request makes the manual scene. -/
def requestedScene (n : Nat) : Option Selection :=
  if n = 255 then none else if n = 0 then some .off else some (.scene n)

/-- R145: a scene request reaches the group that holds a zone. -/
def sceneRequest (z : Zone) (n : Nat) (s : State) : State :=
  match groupOf s z with
  | some (l, g) =>
    if g.state.isOccupied then
      selectGroup l false true
        { s with groups := s.groups.set l (some { g with manualScene := requestedScene n }) }
    else s
  | none => s

/-! ### The daylight loop (R148) -/

/-- R148: the row share of a channel. -/
def rowShare (p : Params) (c : Fin 4) : Nat :=
  match c.val with
  | 0 => p.shareWindow
  | 1 => p.shareMiddle
  | 2 => p.shareCorridor
  | _ => 0

/-- R148: the level of a DAYLIGHT channel after a step. -/
def daylightLevel (p : Params) (c : Fin 4) (target minimum level lux : Nat) : Nat :=
  let e : Int := (target : Int) - lux
  if e.natAbs * 20 ≤ target then level
  else
    let d := clampInt (-80) 80 (truncate (e * p.daylightGain * rowShare p c) 100000)
    (clampInt minimum 1000 ((level : Int) + d)).toNat

/-- R148: the step of one channel. -/
def daylightChannel (z : Zone) (lux : Nat) (k : Scene) (s : State) (c : Fin 4) : State :=
  match k.channels[c] with
  | .fixed _ => s
  | .daylight target minimum _ =>
    if s.light[z].modes[c] then
      let level := daylightLevel s.params c target minimum s.light[z].levels[c] lux
      if level = s.light[z].levels[c] then s
      else
        handTo z (channelFunction c) ⟨level, Config.daylightFade⟩
          (updateLight z (fun r => { r with levels := r.levels.set c level }) s)
    else s

/-- R148: whether the tick makes a daylight step, and with which lux aggregate. -/
def daylightLux (s : State) (z : Zone) : Option Nat :=
  match groupOf s z with
  | some (_, g) =>
    if g.state.isOccupied
        && (s.light[z].fadeEnd == none || reached s.light[z].fadeEnd s.elapsed)
        && (s.light[z].motionEnd == none || reached s.light[z].motionEnd s.elapsed) then luxOf s z
    else none
  | none => none

/-- R148: the daylight step of a zone. -/
def daylightStep (z : Zone) (s : State) : State :=
  match daylightLux s z, s.light[z].scene with
  | some lux, some sel => allZones.foldl (daylightChannel z lux (content s sel)) s
  | _, _ => s

/-- R148: the light tick of a zone. -/
def lightTickZone (z : Zone) (s : State) : State :=
  if present s z then daylightStep z (recomputeBlind z s) else s

/-! ### The sun record (R142) -/

/-- R142: the sun record at an irradiance event. -/
def SunRecord.irradiance (r : SunRecord) (p : Params) (v : Option Nat) (t : Nat) : SunRecord :=
  match v with
  | none => { r with highSince := none, lowSince := none }
  | some v =>
    if r.high then
      if v < p.sunLow then
        if (r.lowSince.getD t) + Config.sunLowDelay ≤ t then ⟨false, none, none⟩
        else { r with lowSince := some (r.lowSince.getD t) }
      else { r with lowSince := none }
    else
      if p.sunHigh ≤ v then
        if (r.highSince.getD t) + Config.sunHighDelay ≤ t then ⟨true, none, none⟩
        else { r with highSince := some (r.highSince.getD t) }
      else { r with highSince := none }

/-- R142: an irradiance event; a change of sun state recomputes the blind target of every present facade zone. -/
def irradianceEvent (s : State) : State :=
  let r := s.sun.irradiance s.params s.irradiance s.elapsed
  let s1 := { s with sun := r }
  if r.high = s.sun.high then s1 else (presentZones s1).foldl (fun s z => recomputeBlind z s) s1

end Sys2Proof.Machine
end

