-- ==== Sys2Proof/Machine/Timetable.lean ====
section
/-! DEFINITION. The timetable (chapter 5): wing time, booking views, the booking fields of a group, the mismatch set. -/

namespace Sys2Proof.Machine

/-! ### Wing time (R81, R84) -/

/-- R81: wing time one second later. -/
def WingTime.advance (t : WingTime) : WingTime :=
  if t.second < 59 then { t with second := t.second + 1 }
  else if t.minute < 1439 then { t with second := 0, minute := t.minute + 1 }
  else { weekday := (t.weekday + 1) % 7, minute := 0, second := 0 }

/-- R84: the difference of an arrival's time from wing time, the shortest way round the week. -/
def clockDifference (arrival wing : WingTime) : Int :=
  let d : Int := (arrival.weekSecond : Int) - wing.weekSecond
  if d < -302399 then d + Config.weekSeconds
  else if 302400 < d then d - Config.weekSeconds
  else d

/-! ### Views (R92, R93) -/

/-- R86: the wing minutes at which the instances of a booking start. -/
def Booking.starts (b : Booking) : List Nat :=
  ([0, 1, 2, 3, 4, 5, 6].filter fun (w : Fin 7) => b.weekdays[w]).map fun w => w.val * 1440 + b.start

/-- R92: whether an instance of a booking is in progress at a wing minute. -/
def Booking.inProgress (b : Booking) (now : Nat) : Bool :=
  b.starts.any fun st => st ≤ now && now < st + (b.stop - b.start)

/-- R93: the distance of a start from a wing minute. -/
def distance (now start : Nat) : Nat := (start + Config.weekMinutes - now) % Config.weekMinutes

/-- R92: the active booking of a zone. -/
def activeBooking (page : List Booking) (now : Nat) (z : Zone) : Option Nat :=
  (page.find? fun b => b.zones[z] && b.inProgress now).map (·.id)

/-- R93, R94: of two upcoming bookings the one of least distance, and of lower id where the distances are equal. -/
def nearer (now : Nat) (a b : Upcoming) : Upcoming :=
  if distance now b.start < distance now a.start then b
  else if distance now b.start = distance now a.start ∧ b.id < a.id then b
  else a

/-- R93, R94: the nearest of a list of upcoming bookings. -/
def nearest (now : Nat) (us : List Upcoming) : Option Upcoming :=
  us.foldl (fun acc u => match acc with
    | none => some u
    | some a => some (nearer now a u)) none

/-- R93: the upcoming booking of a zone. -/
def upcomingBooking (page : List Booking) (now : Nat) (z : Zone) : Option Upcoming :=
  nearest now (page.flatMap fun b =>
    if b.zones[z] then
      (b.starts.filter fun st => 1 ≤ distance now st && distance now st ≤ b.lead).map fun st => ⟨b.id, st⟩
    else [])

/-- R93: the minutes to next start of a zone. -/
def minutesToNext (page : List Booking) (now horizon : Nat) (z : Zone) : Option Nat :=
  let ds := page.flatMap fun b =>
    if b.zones[z] then (b.starts.map (distance now)).filter fun d => 1 ≤ d && d ≤ horizon else []
  ds.foldl (fun acc d => earlierOf acc (some d)) none

/-- R92, R93: the booking view of a zone from the ACTIVE page at the current wing minute. -/
def viewOf (s : State) (z : Zone) : BookingView :=
  match s.clock with
  | none => BookingView.reset
  | some w =>
    if present s z then
      { active := activeBooking s.activeBookings w.wingMinute z
        upcoming := upcomingBooking s.activeBookings w.wingMinute z
        toNext := minutesToNext s.activeBookings w.wingMinute s.params.horizon z }
    else BookingView.reset

/-! ### The booking fields of a group (R94) -/

/-- R94: the rank of a session kind, EXAM highest. -/
def Session.rank : Session → Nat
  | .exam => 4
  | .lecture => 3
  | .seminar => 2
  | .event => 1

/-- R94: the higher of two session kinds. -/
def higherSession (a : Option Session) (b : Session) : Option Session :=
  match a with
  | none => some b
  | some a => if a.rank < b.rank then some b else some a

/-- R94: a member's share of a booking. -/
def bookingShare (s : State) (b : Booking) (z : Zone) : Nat :=
  shareOf s b.count ((zonesOf b.zones).filter (present s)) z

/-- R94: the active bookings of the members, ascending, each with its member. -/
def memberBookings (s : State) (members : List Zone) : List (Zone × Booking) :=
  members.filterMap fun z =>
    match s.views[z].active with
    | some id => (findBooking s.activeBookings id).map fun b => (z, b)
    | none => none

/-- The current wing minute (0 while the clock is UNSET, when no view holds anything). -/
def State.now (s : State) : Nat :=
  match s.clock with
  | some w => w.wingMinute
  | none => 0

/-- R94: the booking fields of a group with these members, from the views as they stand. -/
def bookingFields (s : State) (members : List Zone) : BookingFields where
  list := forZones fun z => if members.contains z then s.views[z].active else none
  upcoming := nearest s.now (members.filterMap fun z => s.views[z].upcoming)
  expected := min Config.headTop ((memberBookings s members).map fun p => bookingShare s p.2 p.1).sum
  session := (memberBookings s members).foldl (fun acc p => higherSession acc p.2.session) none
  profile :=
    match memberBookings s members with
    | p :: _ => p.2.profile
    | [] => 0

/-! ### Partition mismatch (R97) -/

/-- R97: whether the present zones of a zone set all belong to one group. -/
def inOneGroup (s : State) (set : PerZone Bool) : Bool :=
  match (zonesOf set).filter (present s) with
  | [] => true
  | z :: zs => zs.all fun y => (groupOf s y).map (·.1) == (groupOf s z).map (·.1)

/-- R97: the ids that are the active or upcoming booking of a present zone. -/
def viewedIds (s : State) : List Nat :=
  ((presentZones s).flatMap fun z => s.views[z].active.toList ++ (s.views[z].upcoming.map (·.id)).toList).eraseDups

/-- R97: the mismatch set as it should be. -/
def mismatchSet (s : State) : List Nat :=
  (viewedIds s).filter fun id =>
    match findBooking s.activeBookings id with
    | some b => !inOneGroup s b.zones
    | none => false

/-- R97: the mismatch set is recomputed; each id that enters raises PARTITION_MISMATCH (which of several comes last is free,
log 8). -/
def recomputeMismatch (s : State) : State :=
  let new := mismatchSet s
  raiseOneOf .partitionMismatch ((new.filter fun id => !s.mismatch.contains id).map detail16)
    { s with mismatch := new }

end Sys2Proof.Machine
end

