-- ==== Sys2Proof/Machine/Occupancy.lean ====
section
/-! DEFINITION. The occupancy logic (chapter 6): states and entries, evidence, the group tick, bookings, overrides, head
counts, what it hands on; and the evaluation of the booking views that it reacts to (R91, R95). -/

namespace Sys2Proof.Machine

/-! ### Entries (R100) -/

/-- R100: a group enters a state; `s` gives the second, the parameters and the counts. -/
def enterGroup (s : State) (st : Occupancy) (g : Group) : Group :=
  let g1 := { g with state := st, reportPending := true, holdoverDeadline := none, noShowDeadline := none }
  match st with
  | .vacant => { g1 with headCount := 0 }
  | .prepare => { g1 with headCount := 0 }
  | .expected =>
    { g1 with noShowDeadline := if g.attended then none else some (s.elapsed + s.params.noShowLimit),
              pendingSince := none, headCount := 0 }
  | .occupied =>
    { g1 with pendingSince := none, attended := g.attended || g.booked, headCount := occupiedCount s g }
  | .holdover =>
    { g1 with holdoverDeadline :=
                some (s.elapsed + if g.booked then s.params.holdoverBooked else s.params.holdoverUnbooked),
              pendingSince := none }
  | .noShow => { g1 with headCount := 0 }

/-- R113: the head count estimate recomputed in the state the group is in. -/
def recount (s : State) (g : Group) : Group :=
  match g.state with
  | .occupied => { g with headCount := occupiedCount s g }
  | .holdover => g
  | _ => { g with headCount := 0 }

/-! ### What the occupancy logic hands on (R114, R117) -/

/-- R117: whether an item of the report differs. -/
def reportDiffers (a b : Group) : Bool :=
  a.state != b.state || a.members != b.members || a.headCount != b.headCount
    || a.reportedBooking != b.reportedBooking || a.effOverride != b.effOverride

/-- R122: whether a change prompts an air evaluation. -/
def promptsAir (a b : Group) : Bool :=
  a.state != b.state || a.members != b.members || a.headCount != b.headCount

/-- R114: whether a group change is handed on. -/
def groupDiffers (a b : Group) : Bool :=
  promptsAir a b || a.booking != b.booking || a.effOverride != b.effOverride

/-- R144: whether the change from one record to the next clears the manual scene: a booking started, or the group entered
OCCUPIED from a state other than HOLDOVER. -/
def changeClears (old new : Group) (started : Bool) : Bool :=
  started || (new.state == .occupied && old.state != .occupied && old.state != .holdover)

/-- R100: the weak-evidence pending time of every member becomes none. -/
def clearPendingTimes (members : List Zone) (s : State) : State :=
  { s with evidence := forZones fun z =>
      if members.contains z then { s.evidence[z] with pendingTime := none } else s.evidence[z] }

/-- R114: the group change is handed to the air demand unit and to the light and shade unit. `membership` says that it names
a change of membership. -/
def handGroupChange (l : Zone) (old new : Group) (started membership : Bool) (s : State) : State :=
  if membership || groupDiffers old new then
    selectGroup l (changeClears old new started) false
      (if membership || promptsAir old new then airEvaluateZones false new.members s else s)
  else s

/-- The end of an occupancy event: the record is written, the report marked pending where an item changed (R117), the
members' pending times cleared at a confirmation (R100), and the group change handed on (R114). -/
def commitGroup (l : Zone) (old new : Group) (started membership : Bool) (s : State) : State :=
  let new' := if reportDiffers old new then { new with reportPending := true } else new
  let s1 := { s with groups := s.groups.set l (some new') }
  let s2 :=
    if new.state == .occupied && old.state != .occupied then clearPendingTimes new.members s1 else s1
  handGroupChange l old new' started membership s2

/-- One event at the record of the group that holds a zone. -/
def groupEvent (z : Zone) (f : Group → Group) (s : State) : State :=
  match groupOf s z with
  | some (l, g) => commitGroup l g (f g) false false s
  | none => s

/-! ### Evidence (R101, R102, R109, R113) -/

/-- R101, R109: strong evidence at a group. -/
def strongGroup (s : State) (g : Group) : Group :=
  let g1 := { g with lastPresence := some s.elapsed }
  if g.effOverride = .auto then
    if g.state = .occupied then g1 else enterGroup s .occupied g1
  else g1

/-- R102: whether pending since lies within the confirm window. -/
def withinWindow (s : State) (g : Group) : Bool :=
  match g.pendingSince with
  | some p => s.elapsed ≤ p + s.params.confirmWindow
  | none => false

/-- R102, R109: weak evidence at a group. -/
def weakGroup (s : State) (g : Group) : Group :=
  let g1 := { g with lastPresence := some s.elapsed }
  if g.effOverride = .auto then
    match g.state with
    | .expected | .holdover => enterGroup s .occupied g1
    | .occupied => g1
    | .vacant | .prepare | .noShow =>
      if withinWindow s g then enterGroup s .occupied g1
      else { g1 with pendingSince := some s.elapsed }
  else g1

/-- R101: a strong evidence event. -/
def strongEvidence (z : Zone) (s : State) : State := groupEvent z (strongGroup s) s

/-- R102: a weak evidence event. -/
def weakEvidence (z : Zone) (s : State) : State := groupEvent z (weakGroup s) s

/-- R113: a count change event. -/
def countChange (z : Zone) (s : State) : State := groupEvent z (recount s) s

/-! ### Overrides (R67, R107, R110) -/

/-- R67: the effective override and its expiry from the members. -/
def refreshOverride (s : State) (g : Group) : Group :=
  { g with effOverride := effectiveOverride s g.members, overrideExpiry := effectiveExpiry s g.members }

/-- R110: a change of effective override from `before`, applied to a group that already holds the new one. -/
def applyOverride (s : State) (before : OverrideMode) (g : Group) : Group :=
  if g.effOverride = before then g
  else
    match g.effOverride with
    | .forceOccupied => if g.state = .occupied then recount s g else enterGroup s .occupied g
    | .forceVacant => if g.state = .vacant then recount s g else enterGroup s .vacant g
    | .auto =>
      if before = .forceOccupied then enterGroup s .holdover g
      else if g.booked then enterGroup s .expected g
      else if g.hasUpcoming then enterGroup s .prepare g
      else g

/-- R107: what an override event makes a zone's override. -/
def overrideSet (mode : OverrideMode) (minutes t : Nat) : ZoneOverride :=
  match mode with
  | .auto => ⟨.auto, none⟩
  | m => ⟨m, if minutes = 0 then none else some (t + 60 * minutes)⟩

/-- R107: an override event for a present zone. -/
def overrideEvent (z : Zone) (mode : OverrideMode) (minutes : Nat) (s : State) : State :=
  if present s z then
    let s1 := { s with overrides := s.overrides.set z (overrideSet mode minutes s.elapsed) }
    groupEvent z (fun g => applyOverride s1 g.effOverride (refreshOverride s1 g)) s1
  else s

/-! ### The group tick (R103, R104, R106, R108, R111) -/

/-- R108: the members' overrides whose expiry has been reached become AUTO. -/
def expireOverrides (members : List Zone) (s : State) : State :=
  { s with overrides := forZones fun z =>
      if members.contains z && reached s.overrides[z].expiry s.elapsed then ZoneOverride.reset
      else s.overrides[z] }

/-- R108: whether a member's override expiry has been reached. -/
def overrideReached (s : State) (g : Group) : Bool :=
  g.members.any fun z => reached s.overrides[z].expiry s.elapsed

/-- R104: whether the holdover expiry takes place. -/
def holdoverReached (s : State) (g : Group) : Bool :=
  g.effOverride == .auto && g.state == .holdover && reached g.holdoverDeadline s.elapsed

/-- R106: whether the no-show expiry takes place. -/
def noShowReached (s : State) (g : Group) : Bool :=
  g.effOverride == .auto && g.state == .expected && reached g.noShowDeadline s.elapsed

/-- R104: the state a group leaves HOLDOVER for. -/
def afterHoldover (g : Group) : Occupancy :=
  if g.booked then .expected else if g.hasUpcoming then .prepare else .vacant

/-- R103: whether the check is held by an EXAM booking. -/
def examHolds (s : State) (g : Group) : Bool :=
  g.members.any fun z =>
    match g.booking.list[z] with
    | some id =>
      match findBooking s.activeBookings id with
      | some b => b.session == .exam
      | none => false
    | none => false

/-- R103: the quiet time of a group. -/
def quietTimeOf (s : State) (g : Group) : Nat :=
  if seatSum s g.members = some 0 then s.params.quietTimeCounted else s.params.quietTime

/-- R103: the quiet-time check of an OCCUPIED group with override AUTO. -/
def quietCheck (s : State) (g : Group) : Group :=
  match g.lastPresence with
  | none => { g with lastPresence := some s.elapsed }
  | some p =>
    if 0 < (seatSum s g.members).getD 0 then { g with lastPresence := some s.elapsed }
    else if examHolds s g then g
    else if p + quietTimeOf s g ≤ s.elapsed then enterGroup s .holdover g
    else g

/-- R103: whether the quiet time of a group runs out at this tick. -/
def quietReached (s : State) (g : Group) : Bool :=
  g.effOverride == .auto && g.state == .occupied && (quietCheck s g).state == .holdover

/-- R111: steps 1 to 4 of a group tick, in a state whose expired overrides are already AUTO. -/
def tickGroup (s : State) (g : Group) : Group :=
  let g1 := applyOverride s g.effOverride (refreshOverride s g)
  let g2 :=
    if holdoverReached s g1 then enterGroup s (afterHoldover g1) g1
    else if noShowReached s g1 then enterGroup s .noShow g1
    else g1
  if g2.effOverride = .auto ∧ g2.state = .occupied then quietCheck s g2 else g2

/-- The marks of group ticks not yet taken, without those of a group's members (log 3). -/
def clearTickMarks (members : List Zone) (s : State) : State :=
  { s with due :=
      { s.due with
        groupTick := forZones fun y => !members.contains y && s.due.groupTick[y] } }

/-- R111: the tick of the group that holds a zone; its mark is cleared for every member. -/
def groupTick (z : Zone) (s : State) : State :=
  match groupOf s z with
  | none => s
  | some (l, g) =>
    let s1 := expireOverrides g.members (clearTickMarks g.members s)
    let g' := tickGroup s1 g
    let s2 :=
      if g'.state == .noShow && g.state != .noShow then
        raise .noShow (detail16and8 g'.reportedBooking l.val) s1
      else s1
    commitGroup l g g' false false s2

/-- R108, R104, R106, R103: whether a tick of the group would make one of the expiries of the opcode table. -/
def tickExpires (s : State) (g : Group) : Bool :=
  overrideReached s g || holdoverReached s g || noShowReached s g || quietReached s g

/-! ### Bookings (R91, R95, R105) -/

/-- R105: the state a booking view event settles; none is "stays". -/
def bookingResult (st : Occupancy) (booked started upcoming : Bool) : Option Occupancy :=
  match st with
  | .vacant => if booked then some .expected else if upcoming then some .prepare else none
  | .prepare => if booked then some .expected else if upcoming then none else some .vacant
  | .expected =>
    if booked then (if started then some .expected else none)
    else if upcoming then some .prepare else some .vacant
  | .noShow =>
    if booked then (if started then some .expected else none)
    else if upcoming then some .prepare else some .vacant
  | .occupied => none
  | .holdover => none

/-- R105: a booking view event at a group that already holds its new booking fields. -/
def bookingGroup (s : State) (started : Bool) (g : Group) : Group :=
  let g1 := if g.booked then g else { g with attended := false }
  let g2 := if started && g1.state.isOccupied then { g1 with attended := true } else g1
  let g3 :=
    if g2.effOverride = .auto then
      match bookingResult g2.state g2.booked started g2.hasUpcoming with
      | some st => enterGroup s st g2
      | none => g2
    else g2
  recount s g3

/-- R95: the ids that are active for a member in one set of views and for no member in another. -/
def activeOnlyIn (members : List Zone) (a b : PerZone BookingView) : List Nat :=
  (members.filterMap fun z => a[z].active).filter fun id =>
    members.all fun z => b[z].active != some id

/-- R95: the booking view event of a group at an evaluation that replaced the views `old`. -/
def bookingViewEvent (old : PerZone BookingView) (s : State) (l : Zone) : State :=
  match s.groups[l] with
  | none => s
  | some g =>
    let fields := bookingFields s g.members
    let started := activeOnlyIn g.members s.views old
    let ended := activeOnlyIn g.members old s.views
    if !started.isEmpty || !ended.isEmpty || fields != g.booking then
      commitGroup l g (bookingGroup s (!started.isEmpty) { g with booking := fields }) (!started.isEmpty) false s
    else s

/-- R91, R97: an evaluation. -/
def evaluateBookings (s : State) : State :=
  let s1 := { s with views := forZones (viewOf s) }
  recomputeMismatch (allZones.foldl (bookingViewEvent s.views) s1)

/-! ### The clock (R81, R83, R84, R85) -/

/-- R83, R84: a clock arrival. -/
def clockArrival (t : WingTime) (s : State) : State :=
  let s1 := { s with freeRunning := false }
  match s.clock with
  | none => evaluateBookings { s1 with clock := some t }
  | some w =>
    let d := clockDifference t w
    if -2 ≤ d ∧ d ≤ 2 then s1
    else
      let s2 := evaluateBookings { s1 with clock := some t }
      if -120 ≤ d ∧ d ≤ 120 then s2
      else raise .clockStepped (BitVec.ofInt 16 (truncate d 60) ++ (0 : BitVec 8)) s2

/-- R81: the advance of wing time, with the minute evaluation where the second goes from 59 to 0. -/
def advanceWing (s : State) : State :=
  match s.clock with
  | none => s
  | some w =>
    let s1 := { s with clock := some w.advance }
    if w.second = 59 then evaluateBookings s1 else s1

end Sys2Proof.Machine
end

