-- ==== Sys2Proof/Machine/Zones.lean ====
section
/-! DEFINITION. The zone engine (chapter 4): merge, split, partition changes, the rebuild, the presentation flag. -/

namespace Sys2Proof.Machine

/-! ### Merge (R69 to R71, R75, R76, R115) -/

/-- R69: the order of the states at a merge, OCCUPIED highest. -/
def Occupancy.mergeRank : Occupancy → Nat
  | .occupied => 5
  | .holdover => 4
  | .expected => 3
  | .prepare => 2
  | .noShow => 1
  | .vacant => 0

/-- R69: the group whose state the merged group takes. -/
def stateSource (lo hi : Group) : Group := if lo.state.mergeRank < hi.state.mergeRank then hi else lo

/-- R70: whether a state uses pending since. -/
def Occupancy.usesPending : Occupancy → Bool
  | .vacant | .prepare | .noShow => true
  | _ => false

/-- R69 to R71: the fields of a merged group, before R75 and R115 and before its head count is formed. -/
def mergedForm (s : State) (lo hi : Group) : Group :=
  let members := lo.members ++ hi.members
  let st := (stateSource lo hi).state
  let attended := lo.attended || hi.attended
  { members := members
    state := st
    effOverride := effectiveOverride s members
    overrideExpiry := effectiveExpiry s members
    booking := bookingFields s members
    attended := attended
    pendingSince := if st.usesPending then earlierOf lo.pendingSince hi.pendingSince else none
    lastPresence := laterOf lo.lastPresence hi.lastPresence
    holdoverDeadline := if st = .holdover then laterOf lo.holdoverDeadline hi.holdoverDeadline else none
    noShowDeadline := if st = .expected ∧ !attended then laterOf lo.noShowDeadline hi.noShowDeadline else none
    headCount := 0
    manualScene := none
    presentation := presentationOf s members
    reportPending := true }

/-- R115: a merged group that is in PREPARE and booked enters EXPECTED. -/
def mergedBooking (s : State) (g : Group) : Group :=
  if g.state = .prepare ∧ g.booked then enterGroup s .expected g else g

/-- R71: the head count estimate of a merged group. -/
def mergedCount (s : State) (lo hi g : Group) : Nat :=
  match g.state with
  | .occupied => occupiedCount s g
  | .holdover => min Config.headTop (lo.headCount + hi.headCount)
  | _ => 0

/-- R69 to R71, R75, R115: the merged group; R75 is applied before R115 (log 21). -/
def mergedGroup (s : State) (lo hi : Group) : Group :=
  let g := mergedBooking s (applyOverride s (stateSource lo hi).effOverride (mergedForm s lo hi))
  { g with headCount := mergedCount s lo hi g, reportPending := true }

/-- R70, R100: the merge makes the members' weak-evidence pending times none; a merged group that only R115 takes to
EXPECTED keeps them (log 34). -/
def clearsPendingTimes (formed final : Group) : Bool := !formed.state.usesPending || final.state == .occupied

/-- R69 to R71, R76: the merge at partition P(k+1). -/
def mergeAt (k : Fin 3) (s : State) : State :=
  match groupOf s k.castSucc, groupOf s k.succ with
  | some (l, lo), some (h, hi) =>
    if l = h then s
    else
      let g := mergedGroup s lo hi
      let s1 := recomputeMismatch { s with groups := (s.groups.set h none).set l (some g) }
      let s2 := if clearsPendingTimes (mergedForm s lo hi) g then clearPendingTimes g.members s1 else s1
      handGroupChange l (stateSource lo hi) g false true s2
  | _, _ => s

/-! ### Split (R72 to R76) -/

/-- R72: last presence of a new group. -/
def splitPresence (s : State) (st : Occupancy) (members : List Zone) : Option Nat :=
  match members.foldl (fun acc z => laterOf acc s.evidence[z].lastPresence) none with
  | some t => some t
  | none => if st = .occupied then some s.elapsed else none

/-- R72: the fields of a new group of these members. -/
def splitForm (s : State) (g : Group) (members : List Zone) : Group :=
  { g with
    members := members
    lastPresence := splitPresence s g.state members
    pendingSince := members.foldl (fun acc z => earlierOf acc s.evidence[z].pendingTime) none
    effOverride := effectiveOverride s members
    overrideExpiry := effectiveExpiry s members
    presentation := presentationOf s members
    booking := bookingFields s members
    reportPending := true }

/-- R73: the state the booking view gives a new group; none is "stays". -/
def splitResult (st : Occupancy) (booked upcoming : Bool) : Option Occupancy :=
  match st with
  | .expected | .noShow => if booked then none else if upcoming then some .prepare else some .vacant
  | .prepare => if booked || upcoming then none else some .vacant
  | .vacant => if booked then some .expected else if upcoming then some .prepare else none
  | .occupied | .holdover => none

/-- R73: a new group takes its booking view; one that is still forced vacant is held in VACANT (log 21). -/
def splitBooking (s : State) (g : Group) : Group :=
  let g1 := if g.booked then g else { g with attended := false }
  if g1.effOverride = .forceVacant ∧ g1.state = .vacant then g1
  else
    match splitResult g1.state g1.booked g1.hasUpcoming with
    | some st => enterGroup s st g1
    | none => g1

/-- R74: the head count estimate of a new group. -/
def splitCount (s : State) (old g : Group) : Nat :=
  match g.state with
  | .holdover => (g.members.map (shareOf s old.headCount old.members)).sum
  | .occupied => occupiedCount s g
  | _ => 0

/-- R72 to R75: a new group of these members. -/
def splitGroup (s : State) (old : Group) (members : List Zone) : Group :=
  let g := applyOverride s old.effOverride (splitBooking s (splitForm s old members))
  { g with headCount := splitCount s old g, reportPending := true }

/-- R100: the pending times of the members of a new group that entered OCCUPIED become none. -/
def splitPendingTimes (old g : Group) (s : State) : State :=
  if g.state == .occupied && old.state != .occupied then clearPendingTimes g.members s else s

/-- R72 to R74, R76: the split at partition P(k+1). -/
def splitAt (k : Fin 3) (s : State) : State :=
  match groupOf s k.castSucc with
  | some (l, g) =>
    if g.members.contains k.succ then
      let lo := splitGroup s g (g.members.filter fun z => z ≤ k.castSucc)
      let hi := splitGroup s g (g.members.filter fun z => k.castSucc < z)
      let s1 := recomputeMismatch { s with groups := (s.groups.set l (some lo)).set k.succ (some hi) }
      let s2 := airEvaluateZones false g.members (splitPendingTimes g hi (splitPendingTimes g lo s1))
      selectGroup k.succ (changeClears g hi false) false (selectGroup l (changeClears g lo false) false s2)
    else s
  | none => s

/-- R65: a partition change event at P(k+1), whose effective state was `wasOpen` before it. -/
def partitionChange (k : Fin 3) (wasOpen : Bool) (s : State) : State :=
  if partitionOpen s k = wasOpen then s
  else if present s k.castSucc && present s k.succ then
    if wasOpen then splitAt k s else mergeAt k s
  else s

/-! ### The rebuild (R68) -/

/-- R67, R68: a record as a rebuild creates it, with the booking fields the timetable supplies. -/
def freshGroup (s : State) (members : List Zone) : Group where
  members := members
  state := .vacant
  effOverride := effectiveOverride s members
  overrideExpiry := effectiveExpiry s members
  booking := bookingFields s members
  attended := false
  pendingSince := none
  lastPresence := none
  holdoverDeadline := none
  noShowDeadline := none
  headCount := 0
  manualScene := none
  presentation := presentationOf s members
  reportPending := true

/-- R68: step 2 of a rebuild. -/
def rebuiltGroup (s : State) (members : List Zone) : Group :=
  let g := freshGroup s members
  if g.booked then enterGroup s .expected g
  else if g.hasUpcoming then enterGroup s .prepare g
  else g

/-- R66, R68: the records of the groups the present zones and partitions form, each under its leader. -/
def rebuiltGroups (s : State) : PerZone (Option Group) :=
  forZones fun z => ((groupRuns s).find? fun run => run.head? == some z).map (rebuiltGroup s)

/-- R68, R140: a group is selected afresh, with nothing that clears its manual scene but its state. -/
def selectAfresh (s : State) (l : Zone) : State := selectGroup l false false s

/-- R68, R97: the rebuild. -/
def rebuild (s : State) : State :=
  let s1 := recomputeMismatch { s with groups := rebuiltGroups s }
  allZones.foldl selectAfresh (airEvaluateZones false (presentZones s1) s1)

/-! ### The presentation flag (R67, R144) -/

/-- R67, R144: the presentation flag of one group recomputed; a change of it selects the group afresh. -/
def refreshPresentation (s : State) (l : Zone) : State :=
  match s.groups[l] with
  | some g =>
    if presentationOf s g.members = g.presentation then s
    else selectGroup l false false
      { s with groups := s.groups.set l (some { g with presentation := presentationOf s g.members }) }
  | none => s

/-- R67: the presentation flags of all groups. -/
def refreshPresentations (s : State) : State := allZones.foldl refreshPresentation s

end Sys2Proof.Machine
end

