-- ==== Sys2Proof/Machine/Evidence.lean ====
section
/-! DEFINITION. The evidence unit (chapter 3): arrivals, presence evidence, silence, removal, and the runtime at resets. -/

namespace Sys2Proof.Machine

/-- The state with the entry of a code changed. -/
def updatePoint (c : PointCode) (f : PointEntry → PointEntry) (s : State) : State :=
  { s with points := s.points.map fun e => if e.code = c then f e else e }

/-! ### What follows a change of the aggregates (R53, R58, R59) -/

/-- R53: window opened at follows the window-open aggregate of each present zone from the state before. -/
def syncWindows (before s : State) : State :=
  { s with evidence := forZones fun z =>
      if windowOpen s z = windowOpen before z then s.evidence[z]
      else { s.evidence[z] with windowOpenedAt := if windowOpen s z then some s.elapsed else none } }

/-- R58: the count change events. -/
def countChanges (before s : State) : State :=
  (allZones.filter fun z => seatCount s z != seatCount before z).foldl (fun s z => countChange z s) s

/-- R59, R136, R150: the window change events. -/
def windowChanges (before s : State) : State :=
  let zs := allZones.filter fun z => windowOpen s z != windowOpen before z
  zs.foldl (fun s z => testBlind z s) (airEvaluateZones false zs s)

/-- R48, R49, R50: what follows a change of the aggregates that carries no presence evidence. -/
def evidenceChanged (before s : State) : State :=
  windowChanges before (countChanges before (refreshPresentations (syncWindows before s)))

/-! ### Arrivals (R45 to R48, R56) -/

/-- R48: the entry after an arrival of these value bytes at a second. -/
def PointEntry.arrive (e : PointEntry) (r : Role) (b : List Byte) (t : Nat) : PointEntry :=
  let e1 := { e with supervision := .live, lastArrival := some t,
                     deadline := if e.silenceLimit = 0 then none else some (t + e.silenceLimit) }
  match e.attachment with
  | .lanes _ =>
    { e1 with lanes := (decodeLanes r e.rangeMap b e.lanes).1, outOfSpan := (decodeLanes r e.rangeMap b e.lanes).2 }
  | _ =>
    { e1 with last := some (decodeValue r e.rangeMap b).last, outOfSpan := (decodeValue r e.rangeMap b).outOfSpan }

/-- R54, R55: an arrival sets the partition value or the irradiance value its entry feeds. -/
def setHeldValue (e : PointEntry) (r : Role) (b : List Byte) (s : State) : State :=
  match r, e.attachment, (decodeValue r e.rangeMap b).last with
  | .partition, .partition p, .number n => { s with partitions := s.partitions.set p (some (n == 1)) }
  | .sun, _, .number n => { s with irradiance := some n }
  | _, _, _ => s

/-- R47, R52, R56: the present zones an arrival reaches, ascending. -/
def reachedZones (s : State) (a : Attachment) (b : List Byte) : List Zone :=
  match a with
  | .zones set => (zonesOf set).filter (present s)
  | .lanes map =>
    allZones.filter fun z =>
      present s z && allZones.any fun k => 2 * k.val + 1 < b.length && map[k] == some z
  | _ => []

/-- R56: the zones for which an arrival is strong evidence; `e` is the entry before it, `s` the state after step 3. -/
def strongZones (s : State) (e : PointEntry) (r : Role) (b : List Byte) : List Zone :=
  match r with
  | .wallKey => reachedZones s e.attachment b
  | .projector =>
    if (decodeValue r e.rangeMap b).last = .number 1 ∧
        ¬(e.supervision = .live ∧ e.last = some (.number 1)) then reachedZones s e.attachment b
    else []
  | .seatCount => (reachedZones s e.attachment b).filter fun z => 0 < (seatCount s z).getD 0
  | _ => []

/-- R56: the zones for which an arrival is weak evidence. -/
def weakZones (s : State) (e : PointEntry) (r : Role) (b : List Byte) : List Zone :=
  match r with
  | .motion =>
    if (decodeValue r e.rangeMap b).last = .number 1 then reachedZones s e.attachment b else []
  | .door =>
    if e.last ≠ none ∧ e.last ≠ some (decodeValue r e.rangeMap b).last then reachedZones s e.attachment b else []
  | _ => []

/-- R56: the weak-evidence pending time of a zone at weak evidence. -/
def weakPending (pending : Option Nat) (window t : Nat) : Option Nat :=
  match pending with
  | some p => if p + window < t then some t else some p
  | none => some t

/-- R56: the zone evidence records at presence evidence. -/
def recordPresence (strong weak : List Zone) (s : State) : State :=
  { s with evidence := forZones fun z =>
      if strong.contains z then { s.evidence[z] with lastPresence := some s.elapsed, pendingTime := none }
      else if weak.contains z then
        { s.evidence[z] with
          lastPresence := some s.elapsed
          pendingTime := weakPending s.evidence[z].pendingTime s.params.confirmWindow s.elapsed }
      else s.evidence[z] }

/-- R58: a scene request or an override that an arrival carries to one zone. -/
def deliverZone (d : Delivery) (z : Zone) (s : State) : State :=
  match d with
  | .request n => sceneRequest z n s
  | .override mode minutes => overrideEvent z mode minutes s
  | .nothing => s
  | .time _ => s

/-- R58: the occupancy events of one zone, in the order strong, weak, count change, scene request, override (log 20). -/
def zoneEvents (before : State) (strong weak reached : List Zone) (d : Delivery) (s : State) (z : Zone) : State :=
  let s1 := if strong.contains z then strongEvidence z s else s
  let s2 := if weak.contains z then weakEvidence z s1 else s1
  let s3 := if seatCount s z != seatCount before z then countChange z s2 else s2
  if reached.contains z then deliverZone d z s3 else s3

/-- R59: the partition change event of an arrival or a removal, against the state before. -/
def partitionEvents (before : State) (a : Attachment) (s : State) : State :=
  match a with
  | .partition p => partitionChange p (partitionOpen before p) s
  | _ => s

/-- R59: the clock arrival or irradiance event of an arrival. -/
def otherEvents (r : Role) (d : Delivery) (s : State) : State :=
  match r, d with
  | .clock, .time t => clockArrival t s
  | .sun, _ => irradianceEvent s
  | _, _ => s

/-- R48: an arrival at an entry of a role, in one event. -/
def pointArrival (e : PointEntry) (r : Role) (b : List Byte) (s : State) : State :=
  let s1 := setHeldValue e r b (updatePoint e.code (fun e => e.arrive r b s.elapsed) s)
  let strong := strongZones s1 e r b
  let weak := weakZones s1 e r b
  let d := (decodeValue r e.rangeMap b).delivery
  let s2 := refreshPresentations (recordPresence strong weak (syncWindows s s1))
  let s3 := allZones.foldl (zoneEvents s strong weak (reachedZones s1 e.attachment b) d) s2
  windowChanges s (otherEvents r d (partitionEvents s e.attachment s3))

/-! ### Silence (R49) -/

/-- R49: the entry at its silence expiry. -/
def PointEntry.silent (e : PointEntry) : PointEntry := { e with supervision := .stale, deadline := none }

/-- R49, R85: CLOCK_STALE and clock silent, for a CLOCK entry. -/
def clockSilent (e : PointEntry) (s : State) : State :=
  if e.role = some .clock then
    { raise .clockStale (detail16 e.code.toNat) s with freeRunning := true }
  else s

/-- R49: the silence expiry of an entry, where its deadline has been reached. -/
def silenceExpires (c : PointCode) (s : State) : State :=
  match findPoint s c with
  | some e =>
    if reached e.deadline s.elapsed then
      evidenceChanged s
        (clockSilent e (raise .pointStale (detail16 c.toNat) (updatePoint c PointEntry.silent s)))
    else s
  | none => s

/-- R49: the deadline an entry in AWAITING without one starts with. -/
def PointEntry.startDeadline (e : PointEntry) (t : Nat) : PointEntry :=
  if e.silenceLimit ≠ 0 ∧ e.supervision = .awaiting ∧ e.deadline = none then
    { e with deadline := some (t + e.silenceLimit) }
  else e

/-- R49, R183: the device enters RUN and the deadlines start. -/
def startDeadlines (s : State) : State :=
  { s with points := s.points.map fun e => e.startDeadline s.elapsed }

/-! ### Removal (R50) -/

/-- R50, R54: the partition value an entry that left the table fed. -/
def keptPartition (a : Attachment) (s : State) : State :=
  match a with
  | .partition p =>
    if s.points.any fun e => e.role == some .partition && e.attachment == a && e.last.isSome then s
    else { s with partitions := s.partitions.set p none }
  | _ => s

/-- R50, R55: the irradiance value after a SUN entry left the table. -/
def keptIrradiance (r : Option Role) (s : State) : State :=
  if r = some .sun then
    if s.points.any fun e => e.role == some .sun && e.last.isSome then s else { s with irradiance := none }
  else s

/-- R59: the irradiance event of a change of the value to none. -/
def irradianceLost (before s : State) : State :=
  if before.irradiance.isSome && s.irradiance.isNone then irradianceEvent s else s

/-- R50: what follows when an entry has left the table; `before` is the state that still held it. -/
def pointLeft (before : State) (e : PointEntry) (s : State) : State :=
  let s1 := keptIrradiance e.role (keptPartition e.attachment s)
  irradianceLost before (partitionEvents before e.attachment (evidenceChanged before s1))

/-! ### Resets (R26, R51, R57) -/

/-- R24: an entry whose runtime starts afresh. -/
def PointEntry.fresh (e : PointEntry) : PointEntry :=
  { e with supervision := .awaiting, deadline := none, last := none, lanes := Vector.replicate 4 none,
           lastArrival := none, outOfSpan := false, lastCommand := none }

/-- R49, R51: the deadline of an entry that a reset returned to AWAITING. -/
def PointEntry.resetDeadline (e : PointEntry) (hold : Bool) (t : Nat) : PointEntry :=
  if hold then e else e.startDeadline t

/-- R51: an entry after a soft reset. -/
def PointEntry.softReset (e : PointEntry) (hold : Bool) (t : Nat) : PointEntry := e.fresh.resetDeadline hold t

/-- R51: an entry after a room reset; a room-side entry keeps its last values. -/
def PointEntry.roomReset (e : PointEntry) (hold : Bool) (t : Nat) : PointEntry :=
  match e.side with
  | .room => { e.fresh with last := e.last, lanes := e.lanes }.resetDeadline hold t
  | .trunk => e

/-- R57: the zone evidence records after a room reset or a zone configuration load. -/
def resetEvidence (s : State) : State :=
  { s with evidence := forZones fun z =>
      { EvidenceRecord.reset with windowOpenedAt := if windowOpen s z then some s.elapsed else none } }

end Sys2Proof.Machine
end

