-- ==== Sys2Proof/Machine/Commission.lean ====
section
/-! DEFINITION. The commissioning unit (chapter 11): modes, match units, the capture queue. -/

namespace Sys2Proof.Machine

/-- R183: the device enters HOLD from RUN with the number of a match unit, or 0 for the request. -/
def enterHold (unit : Nat) (s : State) : State :=
  if s.hold then s else raise .holdEntered (detail8 unit) { s with hold := true }

/-- R183: the device enters RUN from HOLD; the silence deadlines start. -/
def enterRun (s : State) : State := if s.hold then startDeadlines { s with hold := false } else s

/-- R185: whether a match unit's side takes a port. -/
def MatchSide.takes : MatchSide → Port → Bool
  | .either, _ => true
  | .room, .room => true
  | .room, .trunk => false
  | .trunk, .trunk => true
  | .trunk, .room => false

/-- R185: whether a frame on a port matches a unit. -/
def MatchUnit.hitBy (m : MatchUnit) (p : Port) (f : Frame) : Bool :=
  m.enable && m.side.takes p &&
    (if m.onOrigin then f.originLine.toNat * 256 + f.originNode.toNat == m.value
     else f.kind.isPoint && f.target.toNat == m.value)

/-- R186: the capture record of a frame. -/
def captureRecord (s : State) (transmitted : Bool) (p : Port) (f : Frame) (unit : Nat) : CaptureRecord where
  transmitted := transmitted
  port := p
  frame := { f with value := f.value.take 8 }
  length := f.value.length
  time := s.clock
  unit := unit

/-- R186: a capture record is added, or discarded where the queue is full. -/
def addCapture (transmitted : Bool) (p : Port) (f : Frame) (unit : Nat) (s : State) : State :=
  if s.captures.length < Config.capturePlaces then
    { s with captures := s.captures ++ [captureRecord s transmitted p f unit] }
  else
    raise .captureOverflow (detail8 unit)
      { s with overflow := if s.overflow < Config.overflowTop then s.overflow + 1 else s.overflow }

/-- R185: one match unit is shown a frame. -/
def showUnit (transmitted : Bool) (p : Port) (f : Frame) (s : State) (u : Fin 5) : State :=
  let m := s.matchUnits[u]
  if m.hitBy p f then
    let s1 := addCapture transmitted p f (u.val + 1)
      { s with matchUnits := s.matchUnits.set u { m with hits := bump m.hits } }
    if m.hold then enterHold (u.val + 1) s1 else s1
  else s

/-- R13, R185: the match units are shown a frame, in ascending unit number. -/
def showFrame (transmitted : Bool) (p : Port) (f : Frame) (s : State) : State :=
  ([0, 1, 2, 3, 4] : List (Fin 5)).foldl (showUnit transmitted p f) s

/-- R187: the first byte of a record. -/
def CaptureRecord.tag (r : CaptureRecord) : Nat :=
  (if r.transmitted then 128 else 0) + (if r.port = .trunk then 64 else 0) + r.unit

/-- R187: the 18 bytes of a record. -/
def CaptureRecord.bytes (r : CaptureRecord) : List Byte :=
  byteOf r.tag :: (r.frame.header r.length
    ++ (match r.time with
        | some t => be24 t.weekSecond
        | none => [255, 255, 255])
    ++ (r.frame.value ++ List.replicate 8 0).take 8)

end Sys2Proof.Machine
end

