-- ==== Sys2Proof/Machine/Resets.lean ====
section
/-! DEFINITION. Ports and transmissions (chapter 1): power, withdrawals, the head of a queue, outcomes; and the room, soft and
power-on resets over every chapter's state. -/

namespace Sys2Proof.Machine

/-! ### Withdrawals (R2, R40, R41) -/

/-- R41: the arrived codes of the relayed COMMAND frames of a list, whose records end undelivered. -/
def deliveryCodes (q : List Queued) : List Nat :=
  q.filterMap fun e => match e.owner with
    | .delivery c _ => some c.toNat
    | _ => none

/-- R2: the notice of a withdrawn notice frame is marked pending if its flag is still set. -/
def remarkNotice (k : NoticeKind) (s : State) : State :=
  if (s.notice k).flag then s.withNotice k { s.notice k with pending := true } else s

/-- R2: the report of a withdrawn group status report is marked pending again. -/
def remarkReport (l : Zone) (s : State) : State :=
  match s.groups[l] with
  | some g => { s with groups := s.groups.set l (some { g with reportPending := true }) }
  | none => s

/-- R2: what a withdrawal does at the owner of the frame; undelivered COMMAND frames raise their notice together. -/
def withdraw (s : State) (q : Queued) : State :=
  match q.owner with
  | .relay => s
  | .delivery _ _ => s
  | .output i => outputWithdrawn i s
  | .drive => endDrive .unheard s
  | .reply => s
  | .notice k => remarkNotice k s
  | .report l => remarkReport l s

/-- R2, R41: the frames of an emptied queue are withdrawn; where several relayed COMMAND frames end undelivered, which raise
comes last is free (log 8). -/
def withdrawAll (q : List Queued) (s : State) : State :=
  raiseOneOf .relayUndelivered ((deliveryCodes q).map detail16) (q.foldl withdraw s)

/-- The port's queue emptied. -/
def emptyQueue (p : Port) (s : State) : State := s.withPort p { s.port p with queue := [] }

/-! ### Line power (R1, R2, R3, R7, R188) -/

/-- R188, R189: a drive that still waits for a place ends when the room port is DOWN or reset. -/
def endWaitingDrive (p : Port) (s : State) : State :=
  match p with
  | .room => endDrive .unheard s
  | .trunk => s

/-- R1, R2: line power is lost. -/
def powerLoss (p : Port) (s : State) : State :=
  if (s.port p).up then
    let down := cutReception p (s.withPort p { s.port p with up := false, queue := [] })
    endWaitingDrive p (withdrawAll (s.port p).queue down)
  else s

/-- R1, R3, R7: line power appears; a node number of 0 or 255 holds both ports DOWN. -/
def powerUp (p : Port) (s : State) : State :=
  if !(s.port p).up && nodeValid s.address.node then
    cutReception p (s.withPort p { s.port p with up := true })
  else s

/-! ### Starting a frame (R11) -/

/-- R11: of two WAITING frames the one nearer the head; `a` was admitted earlier. -/
def ahead (a b : Queued) : Queued := if b.frame.priority.toNat < a.frame.priority.toNat then b else a

/-- R11: the head of a queue. -/
def headOf (q : List Queued) : Option Queued :=
  (q.filter fun e => !e.sending).foldl (fun acc e => match acc with
    | none => some e
    | some a => some (ahead a e)) none

/-- R11: the frame of this queue that is SENDING. -/
def sendingOf (q : List Queued) : Option Queued := q.find? (·.sending)

/-- R11: the frame with an order of admission enters or leaves SENDING. -/
def setSending (p : Port) (order : Nat) (sending : Bool) (s : State) : State :=
  s.withPort p { s.port p with
    queue := (s.port p).queue.map fun e => if e.order = order then { e with sending := sending } else e }

/-- R11: the port starts its head frame on a free line. -/
def startHead (p : Port) (s : State) : State :=
  if (s.port p).up && (sendingOf (s.port p).queue).isNone then
    match headOf (s.port p).queue with
    | some h => setSending p h.order true s
    | none => s
  else s

/-! ### Outcomes (R13, R40) -/

/-- R41: a relayed COMMAND is undelivered. -/
def undelivered (c : PointCode) (s : State) : State := raise .relayUndelivered (detail16 c.toNat) s

/-- R40: a delivery record on an outcome of its copy. -/
def deliveryOutcome (p : Port) (f : Frame) (c : PointCode) (requeues : Nat) (o : TxOutcome) (s : State) : State :=
  match o with
  | .ack | .done => s
  | .nak => undelivered c s
  | .busy | .unheard =>
    if requeues < 3 then
      match offer p f (.delivery c (requeues + 1)) true s with
      | some s' => s'
      | none => undelivered c s
    else undelivered c s

/-- R13, R14: the owner's action on an outcome. -/
def ownerOutcome (p : Port) (q : Queued) (o : TxOutcome) (s : State) : State :=
  match q.owner with
  | .relay => s
  | .delivery c n => deliveryOutcome p q.frame c n o s
  | .output i => outputOutcome i o s
  | .drive => endDrive o s
  | .reply => s
  | .notice _ => s
  | .report _ => s

/-- R13: step 1, the frame leaves the queue. -/
def removeFrame (p : Port) (order : Nat) (s : State) : State :=
  s.withPort p { s.port p with queue := (s.port p).queue.filter fun e => e.order != order }

/-- R13: the outcome of the SENDING frame of a port is fixed. -/
def outcomeFixed (p : Port) (heard : Option (Byte × Byte)) (s : State) : State :=
  match sendingOf (s.port p).queue with
  | some q =>
    showFrame true p q.frame
      (ownerOutcome p q (outcomeOf q.frame.kind heard) (removeFrame p q.order s))
  | none => s

/-! ### The room reset (R16, R51, R57, R167, R179) -/

/-- R16, R167: the state a room reset resets, before the events it gives. -/
def roomResetState (s : State) : State :=
  resetEvidence
    { s with
      outputs := s.outputs.map OutEntry.roomReset
      points := s.points.map fun e => e.roomReset s.hold s.elapsed
      driveToggle := false
      pins := { s.pins with roomSignal := true } }

/-- R16: a room reset while the room port is UP. -/
def roomResetDriven (s : State) : State :=
  let s1 := endWaitingDrive .room (withdrawAll s.room.queue (cutReception .room (emptyQueue .room s)))
  let s2 := roomResetState s1
  windowChanges s (countChanges s (refreshPresentations s2))

/-- R16: a room reset takes place only while the room port is UP. -/
def roomResetEvent (s : State) : State := if s.room.up then roomResetDriven s else s

/-! ### The soft reset (R18, R178 and the reset rule of each chapter) -/

/-- R18: a port at a soft reset. -/
def LinePort.softReset (q : LinePort) : LinePort :=
  { q with queue := [], checkErrors := 0, relayDropped := 0, cuts := q.cuts + 1 }

/-- The state a soft reset resets, before the rebuild. -/
def softResetState (cause : BitVec 8) (s : State) : State :=
  { s with
    room := s.room.softReset
    trunk := s.trunk.softReset
    points := s.points.map fun e => e.softReset s.hold s.elapsed
    evidence := Vector.replicate 4 EvidenceRecord.reset
    partitions := Vector.replicate 3 none
    irradiance := none
    overrides := Vector.replicate 4 ZoneOverride.reset
    mismatch := []
    air := Vector.replicate 4 (AirRecord.reset s.params.rStep)
    light := Vector.replicate 4 LightRecord.reset
    sun := SunRecord.reset
    outputs := s.outputs.map OutEntry.restart
    lastRequester := none
    deferred := none
    notices := noticesReset cause
    matchUnits := #v[{ s.matchUnits[0] with hits := 0 }, { s.matchUnits[1] with hits := 0 },
      { s.matchUnits[2] with hits := 0 }, { s.matchUnits[3] with hits := 0 }, { s.matchUnits[4] with hits := 0 }]
    captures := []
    overflow := 0
    drive := none
    driveToggle := false }

/-- R18, R68, R178: a soft reset with the cause STARTED carries. -/
def softResetEvent (cause : BitVec 8) (s : State) : State := rebuild (softResetState cause s)

/-! ### The power-on reset (R20) -/

/-- R7, R20: a power-on reset that reads these straps; the queue of waiting commands and the model's own counts go on
(log 25). -/
def powerOnEvent (address : NodeAddress) (s : State) : State :=
  { State.powerOn address with
    room := { LinePort.reset with cuts := s.room.cuts + 1 }
    trunk := { LinePort.reset with cuts := s.trunk.cuts + 1 }
    free := s.free
    pending := s.pending }

end Sys2Proof.Machine
end

