-- ==== Sys2Proof/Machine/Manage.lean ====
section
/-! DEFINITION. The management responder (chapter 10): taking a request, and the shared parts of its performance. -/

namespace Sys2Proof.Machine

/-- What a request's performance leaves: the state, and the reply to be offered now (none: deferred, R171). -/
abbrev Performed := State × Option (Result × List Byte)

/-- R172: a request performed with OK and its reply data. -/
def done (data : List Byte) (s : State) : Performed := (s, some (.ok, data))

/-- R172, R173: a request answered with a result other than OK changes no state and returns no data. -/
def refuse (r : Result) (s : State) : Performed := (s, some (r, []))

/-- R172: a result decided by tests, or the performance where no test fails. -/
def tested (r : Option Result) (perform : State → Performed) (s : State) : Performed :=
  match r with
  | some r => refuse r s
  | none => perform s

/-- The first test that fails, in the order the tests stand. -/
def firstFailing : List (Bool × Result) → Option Result
  | [] => none
  | (fails, r) :: rest => if fails then some r else firstFailing rest

/-- R169: whether a frame's origin and toggle equal the last requester. -/
def isRepeat (rq : Requester) (s : State) : Bool := s.lastRequester == some ⟨rq.line, rq.node, rq.toggle⟩

/-- R169: test 1; 24 is the request code of HOLD. -/
def portRefused (rq : Requester) (code : Byte) (s : State) : Bool := rq.port == .room && !s.hold && code != 24

/-- R169: test 3; 28 is the request code of SOFT_RESET, which needs no reply. -/
def noReplyRoom (rq : Requester) (code : Byte) (s : State) : Bool :=
  code != 28 && capacity rq.port ≤ (s.port rq.port).queue.length

/-- R169: the acceptance of a request at test 4. -/
def accept (rq : Requester) (s : State) : State :=
  { answer rq.port (some .ack) s with lastRequester := some ⟨rq.line, rq.node, rq.toggle⟩ }

/-- R171: the reply to a requester is offered to the queue of its arrival port. -/
def sendReply (rq : Requester) (code : Byte) (r : Result) (data : List Byte) (s : State) : State :=
  (offer rq.port (replyFrame s rq.line rq.node rq.priority code r data) .reply false s).getD s

/-- R169: the reply of a performed request; SOFT_RESET sends none (R178, log 28). -/
def replyTo (rq : Requester) (code : Byte) (p : Performed) : State :=
  match p.2 with
  | some (r, data) => if code = 28 then p.1 else sendReply rq code r data p.1
  | none => p.1

/-- R169: the responder takes a request of a code with its performance. -/
def respond (rq : Requester) (code : Byte) (perform : State → Performed) (s : State) : State :=
  if portRefused rq code s then answer rq.port (some .nak) s
  else if isRepeat rq s then answer rq.port (some .ack) s
  else if noReplyRoom rq code s then answer rq.port (some .busy) s
  else replyTo rq code (perform (accept rq s))

/-- R172: an unlisted request code, or a frame of length 0. -/
def performUnknown (s : State) : Performed := refuse .malformed s

/-- R172: the request code a MANAGE value begins with (0 for length 0). -/
def valueCode (value : List Byte) : Byte := value.getD 0 0

/-! ### A request command (log 5) -/

/-- R4, R37: the MANAGE frame to the device that carries a value. -/
def requestFrame (rq : Requester) (value : List Byte) (s : State) : Frame where
  priority := rq.priority
  kind := .manage
  hop := rq.hop
  originLine := rq.line
  originNode := rq.node
  target := s.address.trunkLine ++ s.address.node
  toggle := rq.toggle
  spare := rq.spare
  value := value

/-- R6: whether a good frame can carry a value from a requester. -/
def carriable (rq : Requester) (value : List Byte) : Bool := rq.wellFormed && valueWellFormed value

/-- R6, R37, R185: a request command is the arrival of its MANAGE frame where its port receives: the match units are shown the
frame and the responder takes it; one that no good frame can carry is a malformed frame. -/
def request (rq : Requester) (value : List Byte) (perform : State → Performed) (s : State) : State :=
  if receiving rq.port s then
    if carriable rq value then
      respond rq (valueCode value) perform (showFrame false rq.port (requestFrame rq value s) s)
    else countMalformed rq.port s
  else s

end Sys2Proof.Machine
end

