-- ==== Sys2Proof/Machine/Points.lean ====
section
/-! DEFINITION. The requests over the point table: LOAD_POINT (R22 to R24), DELETE_POINT (R25), READ_POINT (R21). -/

namespace Sys2Proof.Machine

/-! ### Codes (R173) -/

/-- R173: role codes 1–12. -/
def Role.code : Role → Nat
  | .motion => 1
  | .door => 2
  | .seatCount => 3
  | .co2 => 4
  | .lux => 5
  | .window => 6
  | .projector => 7
  | .wallKey => 8
  | .partition => 9
  | .sun => 10
  | .override => 11
  | .clock => 12

/-- R173: a role by its code. -/
def Role.ofCode : Nat → Option Role
  | 1 => some .motion
  | 2 => some .door
  | 3 => some .seatCount
  | 4 => some .co2
  | 5 => some .lux
  | 6 => some .window
  | 7 => some .projector
  | 8 => some .wallKey
  | 9 => some .partition
  | 10 => some .sun
  | 11 => some .override
  | 12 => some .clock
  | _ => none

/-- R173: disposition codes. -/
def Disposition.code : Disposition → Nat
  | .pass => 0
  | .take => 1
  | .copy => 2
  | .block => 3

/-- R173: a disposition by its code (codes above 3 have been refused). -/
def Disposition.ofCode : Nat → Disposition
  | 0 => .pass
  | 1 => .take
  | 2 => .copy
  | _ => .block

/-- R173: side codes. -/
def sideCode : Port → Nat
  | .room => 0
  | .trunk => 1

/-- R173: attachment form codes. -/
def Attachment.form : Attachment → Nat
  | .none => 0
  | .zones _ => 1
  | .lanes _ => 2
  | .partition _ => 3

/-! ### LOAD_POINT -/

/-- R23: whether an attachment form is the one a role requires. -/
def formFits (r : Role) (form : Nat) : Bool :=
  match r with
  | .motion | .door | .window | .projector | .wallKey | .override => form == 1
  | .seatCount | .co2 | .lux => form == 1 || form == 2
  | .partition => form == 3
  | .sun | .clock => form == 0

/-- R23: consistency of the fields of a LOAD_POINT; a field of an unlisted code is left to the range test, but for a
range-map-present byte above 1: under a role that admits no map, or role 0, it counts as a present map (log 14). -/
def pointConsistent (a : List Byte) : Bool :=
  let disp := u8 a 3
  let role := u8 a 6
  (if disp = 1 ∨ disp = 2 then role != 0 else true)
  && (if disp = 0 ∨ disp = 3 then role == 0 && u8 a 7 == 0 && u16 a 21 == 0 else true)
  && (u16 a 4 == 65535 || disp == 0 || disp == 2)
  && (match Role.ofCode role with
      | some r => formFits r (u8 a 7) && (u8 a 12 == 0 || r.admitsMap)
      | none => u8 a 12 == 0)

/-- R22: whether one byte of a lane map is a zone or none. -/
def laneOk (n : Nat) : Bool := n ≤ 3 || n == 255

/-- Whether a byte of a LOAD_POINT that stands for nothing lets it pass (log 13). -/
def spareByteOk (a : List Byte) (k : Nat) : Bool := spareOk 3 k (u8 a k)

/-- R22, R173: whether the attachment bytes are in range; bytes and bits that stand for nothing are left to log 13. -/
def attachmentInRange (a : List Byte) : Bool :=
  match u8 a 7 with
  | 0 => [8, 9, 10, 11].all (spareByteOk a)
  | 1 => u8 a 8 % 16 != 0 && spareOk 3 8 (u8 a 8 / 16) && [9, 10, 11].all (spareByteOk a)
  | 2 =>
    laneOk (u8 a 8) && laneOk (u8 a 9) && laneOk (u8 a 10) && laneOk (u8 a 11)
      && !(u8 a 8 == 255 && u8 a 9 == 255 && u8 a 10 == 255 && u8 a 11 == 255)
  | 3 => 1 ≤ u8 a 8 && u8 a 8 ≤ 3 && [9, 10, 11].all (spareByteOk a)
  | _ => false

/-- R22, R24: whether the range map bytes are in range. -/
def mapInRange (a : List Byte) : Bool :=
  match u8 a 12 with
  | 0 => [13, 14, 15, 16, 17, 18, 19, 20].all (spareByteOk a)
  | 1 => u16 a 13 < u16 a 15
  | _ => false

/-- R22, R24: whether every field of a LOAD_POINT is in range. -/
def pointInRange (a : List Byte) : Bool :=
  u16 a 0 ≤ 4095 && u8 a 2 ≤ 1 && u8 a 3 ≤ 3
  && (u16 a 4 == 65535 || u16 a 4 ≤ 4095) && u8 a 6 ≤ 12
  && attachmentInRange a && mapInRange a
  && (u16 a 21 == 0 || (10 ≤ u16 a 21 && u16 a 21 ≤ 3600))

/-- R22: the attachment the bytes carry. -/
def attachmentOf (a : List Byte) : Attachment :=
  match u8 a 7 with
  | 1 => .zones (zoneSetOf (u8 a 8))
  | 2 => .lanes (forZones fun k => if u8 a (8 + k.val) ≤ 3 then some (Fin.ofNat 4 (u8 a (8 + k.val))) else none)
  | 3 => .partition (Fin.ofNat 3 (u8 a 8 - 1))
  | _ => .none

/-- R22, R24: the entry a LOAD_POINT carries, its runtime afresh. -/
def pointOf (a : List Byte) : PointEntry where
  code := BitVec.ofNat 12 (u16 a 0)
  side := if u8 a 2 = 0 then .room else .trunk
  disposition := Disposition.ofCode (u8 a 3)
  relayCode := if u16 a 4 = 65535 then none else some (BitVec.ofNat 12 (u16 a 4))
  role := Role.ofCode (u8 a 6)
  attachment := attachmentOf a
  rangeMap := if u8 a 12 = 1 then some ⟨u16 a 13, u16 a 15, u16 a 17, u16 a 19⟩ else none
  silenceLimit := u16 a 21
  supervision := .awaiting
  deadline := none
  last := none
  lanes := Vector.replicate 4 none
  lastArrival := none
  outOfSpan := false
  lastCommand := none

/-- R24: DUPLICATE: the code belongs to an outbound entry or is a report point code. -/
def pointCodeTaken (s : State) (c : PointCode) : Bool := (outputOfCode s c).isSome || isReportPoint s c

/-- R24: TABLE_FULL. -/
def pointTableFull (s : State) (c : PointCode) : Bool :=
  (findPoint s c).isNone && Config.pointPlaces ≤ s.points.length

/-- R21, R24: the entry takes its place in code order, replacing one of its code. -/
def insertPoint (e : PointEntry) : List PointEntry → List PointEntry
  | [] => [e]
  | x :: xs =>
    if x.code = e.code then e :: xs
    else if e.code.toNat < x.code.toNat then e :: x :: xs
    else x :: insertPoint e xs

/-- R24, R50: an entry is loaded; one it replaces leaves the table. -/
def loadPointEntry (e : PointEntry) (s : State) : State :=
  let s1 := { s with points := insertPoint e s.points }
  match findPoint s e.code with
  | some old => pointLeft s old s1
  | none => s1

/-- LOAD_POINT (R24). -/
def performLoadPoint (a : List Byte) (s : State) : Performed :=
  tested (firstFailing
      [ (a.length != 23, .malformed),
        (!s.hold, .needsHold),
        (!pointConsistent a, .malformed),
        (!pointInRange a, .outOfRange),
        (pointCodeTaken s (pointOf a).code, .duplicate),
        (pointTableFull s (pointOf a).code, .tableFull) ])
    (fun s => done [] (loadPointEntry (pointOf a) s)) s

/-! ### DELETE_POINT -/

/-- R25, R50: an entry is removed. -/
def removePoint (e : PointEntry) (s : State) : State :=
  pointLeft s e { s with points := s.points.filter fun x => x.code != e.code }

/-- DELETE_POINT (R25). -/
def performDeletePoint (a : List Byte) (s : State) : Performed :=
  tested (firstFailing
      [ (a.length != 2, .malformed),
        (!s.hold, .needsHold),
        (4095 < u16 a 0, .outOfRange) ])
    (fun s =>
      match findPoint s (BitVec.ofNat 12 (u16 a 0)) with
      | some e => done [] (removePoint e s)
      | none => refuse .notFound s) s

/-! ### READ_POINT -/

/-- R173: the 4 attachment bytes. -/
def Attachment.bytes : Attachment → List Byte
  | .none => [0, 0, 0, 0]
  | .zones set => [byteOf (zoneSetByte set), 0, 0, 0]
  | .lanes map => allZones.flatMap fun k => opt8 (map[k].map (·.val))
  | .partition p => [byteOf (p.val + 1), 0, 0, 0]

/-- R173: the 9 range map bytes of READ_POINT's reply for a code; what an absent map carries is unstated (log 15). -/
def mapBytes (code : PointCode) : Option RangeMap → List Byte
  | some m => 1 :: (be16 m.sourceLow ++ be16 m.sourceHigh ++ be16 m.targetLow ++ be16 m.targetHigh)
  | none => 0 :: unstatedBytes 5 code.toNat 13 21

/-- R173: the 23 bytes of LOAD_POINT. -/
def PointEntry.staticBytes (e : PointEntry) : List Byte :=
  be16 e.code.toNat ++ [byteOf (sideCode e.side), byteOf e.disposition.code]
    ++ opt16 (e.relayCode.map (·.toNat)) ++ [byteOf ((e.role.map Role.code).getD 0), byteOf e.attachment.form]
    ++ e.attachment.bytes ++ mapBytes e.code e.rangeMap ++ be16 e.silenceLimit

/-- R173: supervision codes. -/
def Supervision.code : Supervision → Nat
  | .awaiting => 0
  | .live => 1
  | .stale => 2

/-- R173: the 16 bits of a single last value; one that is not one number is free (log 17). -/
def lastValueBytes : Option LastValue → List Byte
  | some (.number n) => be16 n
  | some (.bytes b) => be16 (Config.lastValueField b).toNat
  | none => [255, 255]

/-- R173: the last value or the four lane values. -/
def PointEntry.valueBytes (e : PointEntry) : List Byte :=
  match e.attachment with
  | .lanes _ => allZones.flatMap fun k => opt16 e.lanes[k]
  | _ => lastValueBytes e.last ++ [255, 255, 255, 255, 255, 255]

/-- R173: the reply of READ_POINT. -/
def PointEntry.replyBytes (e : PointEntry) : List Byte :=
  e.staticBytes ++ [byteOf e.supervision.code] ++ flag8 e.outOfSpan ++ optSecond e.lastArrival ++ e.valueBytes

/-- R21: the entry READ_POINT names: this one, or the one of the lowest greater code. -/
def pointNamed (s : State) (code form : Nat) : Option PointEntry :=
  if form = 0 then s.points.find? fun e => e.code.toNat == code
  else s.points.find? fun e => code < e.code.toNat

/-- READ_POINT (R21, R173). -/
def performReadPoint (a : List Byte) (s : State) : Performed :=
  tested (firstFailing
      [ (a.length != 3, .malformed),
        (4095 < u16 a 0 || 1 < u8 a 2, .outOfRange) ])
    (fun s =>
      match pointNamed s (u16 a 0) (u8 a 2) with
      | some e => done e.replyBytes s
      | none => refuse .notFound s) s

end Sys2Proof.Machine
end

