-- ==== Sys2Proof/Machine/ZoneRequests.lean ====
section
/-! DEFINITION. The requests over zones: LOAD_ZONE (R61, R62), READ_ZONE (R173), SET_OVERRIDE (R177). -/

namespace Sys2Proof.Machine

/-- The zone of a number 0–3. -/
abbrev zoneAt (n : Nat) : Zone := Fin.ofNat 4 n

/-! ### LOAD_ZONE -/

/-- R60: the record a LOAD_ZONE carries, where it is present. -/
def zoneConfigOf (a : List Byte) : ZoneConfig where
  area := u16 a 2
  walkIn := u8 a 4
  dMax := u16 a 5
  dMinOcc := u16 a 7
  dMinUnocc := u16 a 9
  partitionToNext := (u8 a 11).testBit 0
  facade := (u8 a 11).testBit 1

/-- R60: the field ranges of a present record. -/
def ZoneConfig.inRange (c : ZoneConfig) : Bool :=
  10 ≤ c.area && c.area ≤ 400 && c.walkIn ≤ 100 && 100 ≤ c.dMax && c.dMax ≤ 6000
    && c.dMinOcc ≤ c.dMax && c.dMinUnocc ≤ c.dMinOcc

/-- R61: whether the zone below is present (there is none below Z0). -/
def belowPresent (s : State) (k : Nat) : Bool := k == 0 || present s (zoneAt (k - 1))

/-- R61: whether the zone above is present. -/
def abovePresent (s : State) (k : Nat) : Bool := k < 3 && present s (zoneAt (k + 1))

/-- R61: test 3; a present byte that is neither 0 nor 1 is out of range (log 35). -/
def zoneInRange (s : State) (a : List Byte) : Bool :=
  u8 a 0 ≤ 3 && u8 a 1 ≤ 1 &&
    (if u8 a 1 = 1 then
      (zoneConfigOf a).inRange && !(u8 a 0 == 3 && (zoneConfigOf a).partitionToNext) && belowPresent s (u8 a 0)
        && spareOk 6 11 (u8 a 11 / 4)
     else !abovePresent s (u8 a 0))

/-- R61: test 4. -/
def zoneInUse (s : State) (a : List Byte) : Bool :=
  u8 a 1 == 0 && present s (zoneAt (u8 a 0)) &&
    ((s.pageA ++ s.pageB).any fun b => b.zones[zoneAt (u8 a 0)])

/-- R98: the booking views after a zone configuration load. -/
def keptViews (s : State) : State :=
  { s with views := forZones fun z => if present s z then s.views[z] else BookingView.reset }

/-- R62: a zone record is replaced and the room rebuilt. -/
def loadZoneRecord (z : Zone) (c : Option ZoneConfig) (s : State) : State :=
  rebuild (resetEvidence (keptViews
    { s with
      zones := s.zones.set z c
      overrides := Vector.replicate 4 ZoneOverride.reset
      air := Vector.replicate 4 (AirRecord.reset s.params.rStep)
      light := Vector.replicate 4 LightRecord.reset }))

/-- LOAD_ZONE (R61, R62). -/
def performLoadZone (a : List Byte) (s : State) : Performed :=
  tested (firstFailing
      [ (!s.hold, .needsHold),
        (a.length != 12, .malformed),
        (!zoneInRange s a, .outOfRange),
        (zoneInUse s a, .inUse) ])
    (fun s => done [] (loadZoneRecord (zoneAt (u8 a 0)) (if u8 a 1 = 1 then some (zoneConfigOf a) else none) s)) s

/-! ### READ_ZONE -/

/-- R173: the 11 bytes of LOAD_ZONE after the zone. -/
def zoneConfigBytes : Option ZoneConfig → List Byte
  | some c =>
    1 :: (be16 c.area ++ [byteOf c.walkIn] ++ be16 c.dMax ++ be16 c.dMinOcc ++ be16 c.dMinUnocc
      ++ [byteOf (c.partitionToNext.toNat + 2 * c.facade.toNat)])
  | none => [0, 0, 0, 0, 0, 0, 0, 0, 0, 0, 0]

/-- R173: part 0, configuration. -/
def zonePart0 (s : State) (z : Zone) : List Byte :=
  zoneConfigBytes s.zones[z] ++ [byteOf s.overrides[z].mode.code] ++ optSecond s.overrides[z].expiry
    ++ opt16 s.views[z].active ++ opt16 (s.views[z].upcoming.map (·.id)) ++ opt16 s.views[z].toNext

/-- R173: a partition value. -/
def partitionByte (v : Option Bool) : List Byte := opt8 (v.map Bool.toNat)

/-- R173: part 1, evidence. -/
def zonePart1 (s : State) (z : Zone) : List Byte :=
  optSecond s.evidence[z].lastPresence ++ optSecond s.evidence[z].pendingTime
    ++ optSecond s.evidence[z].windowOpenedAt ++ opt16 (seatCount s z) ++ opt16 (co2Of s z) ++ opt16 (luxOf s z)
    ++ flag8 (windowOpen s z) ++ flag8 (projectorOn s z)
    ++ partitionByte s.partitions[0] ++ partitionByte s.partitions[1] ++ partitionByte s.partitions[2]
    ++ opt16 s.irradiance

/-- R173: session kind codes. -/
def Session.code : Session → Nat
  | .lecture => 0
  | .seminar => 1
  | .exam => 2
  | .event => 3

/-- R173: a scene selection: 0 OFF, 1–16, 255 none. -/
def selectionByte : Option Selection → Byte
  | some .off => 0
  | some (.scene n) => byteOf n
  | none => 255

/-- R173: part 2, the group of the zone. -/
def zonePart2 (l : Zone) (g : Group) : List Byte :=
  [byteOf l.val, byteOf (zoneSetByte (memberSet g.members)), byteOf g.state.code, byteOf g.effOverride.code]
    ++ optSecond g.overrideExpiry ++ be16 g.reportedBooking ++ opt16 (g.booking.upcoming.map (·.id))
    ++ opt16 (g.booking.upcoming.map fun u => u.start % 1440) ++ be16 g.booking.expected
    ++ opt8 (g.booking.session.map Session.code) ++ [byteOf g.booking.profile]
    ++ [byteOf (g.attended.toNat + 2 * g.presentation.toNat + 4 * g.reportPending.toNat)]
    ++ optSecond g.pendingSince ++ optSecond g.lastPresence ++ optSecond g.holdoverDeadline
    ++ optSecond g.noShowDeadline ++ be16 g.headCount ++ [selectionByte g.manualScene]

/-- R173: part 3, air. -/
def zonePart3 (r : AirRecord) : List Byte :=
  signed32 r.integrator ++ flag8 r.limited ++ be16 r.dOut ++ be16 r.allowance ++ opt16 r.dTarget ++ opt16 r.command
    ++ opt8 (r.thermal.map Thermal.code) ++ be32 r.dBase ++ signed16 r.eEff

/-- R173: a blind position. -/
def blindBytes (p : Option BlindPosition) : List Byte := opt16 (p.map (·.height)) ++ opt16 (p.map (·.slat))

/-- R173: the mode flags of part 4. -/
def modeFlags (r : LightRecord) (sun : SunRecord) : Nat :=
  r.modes[0].toNat + 2 * r.modes[1].toNat + 4 * r.modes[2].toNat + 8 * r.modes[3].toNat + 128 * sun.high.toNat

/-- R173: part 4, light. -/
def zonePart4 (r : LightRecord) (sun : SunRecord) : List Byte :=
  [selectionByte r.scene, byteOf (modeFlags r sun)]
    ++ (be16 r.levels[0] ++ be16 r.levels[1] ++ be16 r.levels[2] ++ be16 r.levels[3])
    ++ optSecond r.fadeEnd ++ blindBytes r.blindTarget ++ blindBytes r.blindSent ++ optSecond r.lastSend
    ++ optSecond r.motionEnd ++ optSecond sun.highSince ++ optSecond sun.lowSince

/-- R173: a part of a present zone. -/
def zonePart (s : State) (z : Zone) (part : Nat) : List Byte :=
  match part with
  | 0 => zonePart0 s z
  | 1 => zonePart1 s z
  | 2 =>
    match groupOf s z with
    | some (l, g) => zonePart2 l g
    | none => []
  | 3 => zonePart3 s.air[z]
  | _ => zonePart4 s.light[z] s.sun

/-- READ_ZONE (R173). -/
def performReadZone (a : List Byte) (s : State) : Performed :=
  tested (firstFailing
      [ (a.length != 2, .malformed),
        (3 < u8 a 0 || 4 < u8 a 1, .outOfRange),
        (u8 a 1 != 0 && !present s (zoneAt (u8 a 0)), .notFound) ])
    (fun s => done (zonePart s (zoneAt (u8 a 0)) (u8 a 1)) s) s

/-! ### SET_OVERRIDE -/

/-- R177: whether the arguments of SET_OVERRIDE are in range. -/
def overrideInRange (s : State) (a : List Byte) : Bool :=
  u8 a 0 ≤ 3 && present s (zoneAt (u8 a 0)) && u8 a 1 ≤ 2 && u16 a 2 ≤ 720

/-- SET_OVERRIDE (R107, R177). -/
def performSetOverride (a : List Byte) (s : State) : Performed :=
  tested (firstFailing
      [ (a.length != 4, .malformed),
        (!overrideInRange s a, .outOfRange) ])
    (fun s => done [] (overrideEvent (zoneAt (u8 a 0)) ((OverrideMode.ofCode (u8 a 1)).getD .auto) (u16 a 2) s)) s

end Sys2Proof.Machine
end

