-- ==== Sys2Proof/Machine/OutputRequests.lean ====
section
/-! DEFINITION. The requests over the outbound table: LOAD_OUTPUT (R158), DELETE_OUTPUT (R159), READ_OUTPUT (R173). -/

namespace Sys2Proof.Machine

/-- The table index of a number 0–63. -/
abbrev indexAt (n : Nat) : OutIndex := Fin.ofNat 64 n

/-! ### LOAD_OUTPUT -/

/-- R157, R158: test 3. -/
def outputInRange (a : List Byte) : Bool :=
  u8 a 0 ≤ 63 && u16 a 1 ≤ 4095 && u8 a 3 ≤ 3 && u8 a 4 ≤ 7 && u8 a 5 ≤ 100
    && (u16 a 6 == 0 || (60 ≤ u16 a 6 && u16 a 6 ≤ 3600))

/-- R158, R160: the entry a LOAD_OUTPUT carries, its runtime as after a soft reset. -/
def outputOf (a : List Byte) : OutEntry where
  index := indexAt (u8 a 0)
  code := BitVec.ofNat 12 (u16 a 1)
  zone := zoneAt (u8 a 3)
  function := (OutFunction.ofCode (u8 a 4)).getD .airflow
  deadband := u8 a 5
  refresh := u16 a 6
  state := .idle
  toggle := false
  exposed := false
  computed := none
  sent := none
  confirmed := none
  next := none
  retries := 0
  busies := 0
  timer := none

/-- R158: test 4. -/
def outputCodeTaken (s : State) (e : OutEntry) : Bool :=
  (findPoint s e.code).isSome || isReportPoint s e.code
    || s.outputs.any fun x => x.code == e.code && x.index != e.index

/-- R158: test 5. -/
def outputPlacesTaken (s : State) (e : OutEntry) : Bool :=
  2 ≤ (s.outputs.filter fun x => x.index != e.index && x.isFor e.zone e.function).length

/-- R158: test 6. -/
def outputInUse (s : State) (e : OutEntry) : Bool :=
  drivenCode s e.code ||
    (match findOutput s e.index with
      | some x => x.state == .queued || drivenCode s x.code
      | none => false)

/-- R157: the entry takes its place in index order, replacing one of its index. -/
def insertOutput (e : OutEntry) : List OutEntry → List OutEntry
  | [] => [e]
  | x :: xs =>
    if x.index = e.index then e :: xs
    else if e.index.val < x.index.val then e :: x :: xs
    else x :: insertOutput e xs

/-- R158: the value a zone holds now for a function. -/
def heldValue (s : State) (z : Zone) (f : OutFunction) : Option OutValue :=
  if !present s z then none
  else
    match f with
    | .airflow => s.air[z].command.map fun c => ⟨c, 0⟩
    | .thermalMode => s.air[z].thermal.map fun t => ⟨t.code, 0⟩
    | .lightWindow => some ⟨s.light[z].levels[0], 0⟩
    | .lightMiddle => some ⟨s.light[z].levels[1], 0⟩
    | .lightCorridor => some ⟨s.light[z].levels[2], 0⟩
    | .lightBoard => some ⟨s.light[z].levels[3], 0⟩
    | .blindHeight => s.light[z].blindSent.map fun p => ⟨p.height, 0⟩
    | .blindSlat => s.light[z].blindSent.map fun p => ⟨p.slat, 0⟩

/-- R158: the entry with its first computed value. -/
def firstValue (s : State) (e : OutEntry) : OutEntry :=
  match heldValue s e.zone e.function with
  | some v => e.take false v
  | none => e

/-- LOAD_OUTPUT (R158). -/
def performLoadOutput (a : List Byte) (s : State) : Performed :=
  tested (firstFailing
      [ (!s.hold, .needsHold),
        (a.length != 8, .malformed),
        (!outputInRange a, .outOfRange),
        (outputCodeTaken s (outputOf a), .duplicate),
        (outputPlacesTaken s (outputOf a), .tableFull),
        (outputInUse s (outputOf a), .inUse) ])
    (fun s => done [] { s with outputs := insertOutput (firstValue s (outputOf a)) s.outputs }) s

/-! ### DELETE_OUTPUT -/

/-- R159: IN_USE. -/
def entryInUse (s : State) (e : OutEntry) : Bool := e.state == .queued || drivenCode s e.code

/-- DELETE_OUTPUT (R159). R173's table has no row for its arguments: that they are the index alone, in one byte, and that any
other length is MALFORMED, is read from READ_OUTPUT's row (DEDUCED, log 36). -/
def performDeleteOutput (a : List Byte) (s : State) : Performed :=
  tested (firstFailing
      [ (a.length != 1, .malformed),
        (!s.hold, .needsHold),
        (63 < u8 a 0, .outOfRange) ])
    (fun s =>
      match findOutput s (indexAt (u8 a 0)) with
      | some e =>
        if entryInUse s e then refuse .inUse s
        else done [] { s with outputs := s.outputs.filter fun x => x.index != e.index }
      | none => refuse .notFound s) s

/-! ### READ_OUTPUT -/

/-- R173: state codes, in the order of R160. -/
def OutState.code : OutState → Nat
  | .idle => 0
  | .pending => 1
  | .queued => 2
  | .backoff => 3
  | .confirmed => 4
  | .unanswered => 5
  | .refused => 6

/-- R173: the reply of READ_OUTPUT. -/
def OutEntry.replyBytes (e : OutEntry) : List Byte :=
  [byteOf e.index.val] ++ be16 e.code.toNat ++ [byteOf e.zone.val, byteOf e.function.code, byteOf e.deadband]
    ++ be16 e.refresh ++ [byteOf e.state.code, byteOf (e.toggle.toNat + 2 * e.exposed.toNat)]
    ++ outValue3 e.function e.index.val 10 e.computed ++ outValue3 e.function e.index.val 13 e.sent
    ++ outValue3 e.function e.index.val 16 e.confirmed ++ outValue3 e.function e.index.val 19 e.next ++ [byteOf e.retries, byteOf e.busies] ++ optSecond e.timer

/-- READ_OUTPUT (R172, R173). -/
def performReadOutput (a : List Byte) (s : State) : Performed :=
  tested (firstFailing
      [ (a.length != 1, .malformed),
        (63 < u8 a 0, .outOfRange) ])
    (fun s =>
      match findOutput s (indexAt (u8 a 0)) with
      | some e => done e.replyBytes s
      | none => refuse .notFound s) s

end Sys2Proof.Machine
end

