-- ==== Sys2Proof/Machine/BookingRequests.lean ====
section
/-! DEFINITION. The requests over the booking pages: LOAD_BOOKING (R86, R88), CLEAR_STANDBY and READ_BOOKING (R89),
SWAP_PAGES (R90). -/

namespace Sys2Proof.Machine

/-! ### LOAD_BOOKING -/

/-- R173: a session kind by its code. -/
def Session.ofCode : Nat → Option Session
  | 0 => some .lecture
  | 1 => some .seminar
  | 2 => some .exam
  | 3 => some .event
  | _ => none

/-- R86: the booking a LOAD_BOOKING carries. -/
def bookingOf (a : List Byte) : Booking where
  id := u16 a 0
  weekdays := weekdaysOf (u8 a 2)
  start := u16 a 3
  stop := u16 a 5
  zones := zoneSetOf (u8 a 7)
  count := u16 a 8
  session := (Session.ofCode (u8 a 10)).getD .lecture
  lead := u8 a 11
  profile := u8 a 12

/-- R88: test 2; bits of the two sets that stand for nothing are left to log 13. -/
def bookingInRange (s : State) (a : List Byte) : Bool :=
  let b := bookingOf a
  b.id != 0 && u8 a 2 % 128 != 0 && spareOk 11 2 (u8 a 2 / 128)
    && b.start ≤ 1430 && 10 ≤ b.stop && b.stop ≤ 1440 && b.start + 10 ≤ b.stop && b.stop ≤ b.start + 720
    && u8 a 7 % 16 != 0 && spareOk 11 7 (u8 a 7 / 16) && (zonesOf b.zones).all (present s)
    && b.count ≤ 400 && u8 a 10 ≤ 3 && b.lead ≤ 90 && b.profile ≤ 7

/-- R88: whether two bookings share a weekday. -/
def sharesWeekday (a b : Booking) : Bool :=
  ([0, 1, 2, 3, 4, 5, 6] : List (Fin 7)).any fun w => a.weekdays[w] && b.weekdays[w]

/-- R88: whether two bookings share a zone. -/
def sharesZone (a b : Booking) : Bool := allZones.any fun z => a.zones[z] && b.zones[z]

/-- R88: whether the intervals of two bookings intersect. -/
def intersects (a b : Booking) : Bool := a.start < b.stop && b.start < a.stop

/-- R88: test 4. -/
def overlapsBooking (a b : Booking) : Bool := sharesWeekday a b && sharesZone a b && intersects a b

/-- R87: the page order: start minute, then id. -/
def Booking.before (a b : Booking) : Bool := a.start < b.start || (a.start == b.start && a.id < b.id)

/-- R87, R88: a booking takes its place in the page's order. -/
def insertBooking (b : Booking) : List Booking → List Booking
  | [] => [b]
  | x :: xs => if b.before x then b :: x :: xs else x :: insertBooking b xs

/-- The state with the STANDBY page replaced. -/
def State.withStandby (s : State) (page : List Booking) : State :=
  match s.standbyPage with
  | .a => { s with pageA := page }
  | .b => { s with pageB := page }

/-- LOAD_BOOKING (R88). -/
def performLoadBooking (a : List Byte) (s : State) : Performed :=
  tested (firstFailing
      [ (a.length != 13, .malformed),
        (!bookingInRange s a, .outOfRange),
        ((findBooking s.standbyBookings (u16 a 0)).isSome, .duplicate),
        (s.standbyBookings.any (overlapsBooking (bookingOf a)), .overlap),
        (Config.bookingPlaces ≤ s.standbyBookings.length, .tableFull) ])
    (fun s => done [] (s.withStandby (insertBooking (bookingOf a) s.standbyBookings))) s

/-! ### CLEAR_STANDBY and SWAP_PAGES -/

/-- CLEAR_STANDBY (R89). -/
def performClearStandby (a : List Byte) (s : State) : Performed :=
  tested (firstFailing [(a.length != 0, .malformed)]) (fun s => done [] (s.withStandby [])) s

/-- R90: the pages change roles and the timetable evaluates. -/
def swapAndEvaluate (s : State) : State := evaluateBookings { s with activePage := s.standbyPage }

/-- SWAP_PAGES (R90). -/
def performSwapPages (a : List Byte) (s : State) : Performed :=
  tested (firstFailing [(a.length != 0, .malformed)]) (fun s => done [] (swapAndEvaluate s)) s

/-! ### READ_BOOKING -/

/-- R173: the 13 bytes of LOAD_BOOKING. -/
def Booking.bytes (b : Booking) : List Byte :=
  be16 b.id ++ [byteOf (weekdayByte b.weekdays)] ++ be16 b.start ++ be16 b.stop ++ [byteOf (zoneSetByte b.zones)]
    ++ be16 b.count ++ [byteOf b.session.code, byteOf b.lead, byteOf b.profile]

/-- R89: the booking that follows a named one in the page's order. -/
def followingBooking (id : Nat) : List Booking → Option Booking
  | [] => none
  | x :: xs => if x.id = id then xs.head? else followingBooking id xs

/-- R89: the booking READ_BOOKING names. -/
def bookingNamed (page : List Booking) (id form : Nat) : Option Booking :=
  if form = 0 then (if id = 0 then none else findBooking page id)
  else if id = 0 then page.head?
  else followingBooking id page

/-- R173: a page by its code. -/
def pageAt (n : Nat) : Page := if n = 0 then .a else .b

/-- READ_BOOKING (R89, R173). -/
def performReadBooking (a : List Byte) (s : State) : Performed :=
  tested (firstFailing
      [ (a.length != 4, .malformed),
        (1 < u8 a 0 || 1 < u8 a 3, .outOfRange) ])
    (fun s =>
      match bookingNamed (s.page (pageAt (u8 a 0))) (u16 a 1) (u8 a 3) with
      | some b => done b.bytes s
      | none => refuse .notFound s) s

end Sys2Proof.Machine
end

