-- ==== Sys2Proof/Machine/SceneRequests.lean ====
section
/-! DEFINITION. The requests over scenes and profiles: LOAD_SCENE (R139), LOAD_PROFILE (R140). -/

namespace Sys2Proof.Machine

/-! ### LOAD_SCENE -/

/-- R173: the first byte of a channel's setting in a LOAD_SCENE. -/
def channelAt (c : Nat) : Nat := 1 + 7 * c

/-- R138: the setting a LOAD_SCENE carries for a channel. -/
def settingOf (a : List Byte) (c : Nat) : ChannelSetting :=
  if u8 a (channelAt c) = 0 then .fixed (u16 a (channelAt c + 1))
  else .daylight (u16 a (channelAt c + 1)) (u16 a (channelAt c + 3)) (u16 a (channelAt c + 5))

/-- R138, R139: whether a channel's setting is in range; BOARD is the last channel. -/
def settingInRange (a : List Byte) (c : Nat) : Bool :=
  u8 a (channelAt c) ≤ 1 &&
    (match settingOf a c with
      | .fixed level =>
        level ≤ 1000 && spareOk 15 (channelAt c + 3) (u16 a (channelAt c + 3))
          && spareOk 15 (channelAt c + 5) (u16 a (channelAt c + 5))
      | .daylight target minimum start =>
        100 ≤ target && target ≤ 1500 && minimum ≤ 1000 && start ≤ 1000 && minimum ≤ start && c != 3)

/-- R138: a height or slat, 65535 for KEEP. -/
def keepable (n : Nat) : Option Nat := if n = 65535 then none else some n

/-- R138: whether a height or slat is in range. -/
def keepableInRange (n : Nat) : Bool := n == 65535 || n ≤ 1000

/-- R138: the scene a LOAD_SCENE carries. -/
def sceneOf (a : List Byte) : Scene where
  channels := forZones fun c => settingOf a c.val
  height := keepable (u16 a 29)
  slat := keepable (u16 a 31)
  fade := u8 a 33

/-- R139: test 2. -/
def sceneInRange (a : List Byte) : Bool :=
  1 ≤ u8 a 0 && u8 a 0 ≤ 16 && allZones.all (fun c => settingInRange a c.val)
    && keepableInRange (u16 a 29) && keepableInRange (u16 a 31) && u8 a 33 ≤ 60

/-- R139: one present zone whose scene in force has the number takes a scene change. -/
def reloadScene (n : Nat) (s : State) (z : Zone) : State :=
  if s.light[z].scene = some (.scene n) then sceneChange z (.scene n) s else s

/-- R139: a scene is loaded. -/
def loadSceneContent (n : Nat) (k : Scene) (s : State) : State :=
  let s1 := { s with scenes := s.scenes.set (Fin.ofNat 16 (n - 1)) (some k) }
  (presentZones s1).foldl (reloadScene n) s1

/-- LOAD_SCENE (R139). -/
def performLoadScene (a : List Byte) (s : State) : Performed :=
  tested (firstFailing
      [ (a.length != 34, .malformed),
        (!sceneInRange a, .outOfRange) ])
    (fun s => done [] (loadSceneContent (u8 a 0) (sceneOf a) s)) s

/-! ### LOAD_PROFILE -/

/-- R140: the profile a LOAD_PROFILE carries. -/
def profileOf (a : List Byte) : Profile := ⟨u8 a 1, u8 a 2, u8 a 3, u8 a 4, u8 a 5⟩

/-- R140: whether a LOAD_PROFILE is in range. -/
def profileInRange (a : List Byte) : Bool :=
  u8 a 0 ≤ 7 && u8 a 1 ≤ 16 && u8 a 2 ≤ 16 && u8 a 3 ≤ 16 && u8 a 4 ≤ 16 && u8 a 5 ≤ 16
    && (u8 a 0 == 0 || u8 a 5 == 0)

/-- R140: a profile is loaded and every group selected afresh. -/
def loadProfileSlots (n : Nat) (p : Profile) (s : State) : State :=
  allZones.foldl selectAfresh { s with profiles := s.profiles.set (Fin.ofNat 8 n) p }

/-- LOAD_PROFILE (R140). -/
def performLoadProfile (a : List Byte) (s : State) : Performed :=
  tested (firstFailing
      [ (a.length != 6, .malformed),
        (!profileInRange a, .outOfRange) ])
    (fun s => done [] (loadProfileSlots (u8 a 0) (profileOf a) s)) s

end Sys2Proof.Machine
end

