-- ==== Sys2Proof/Machine/StatusRequests.lean ====
section
/-! DEFINITION. DESCRIBE and READ_STATUS (R174), parameters (R175, R176), the notice set on request (R177). -/

namespace Sys2Proof.Machine

/-! ### Identity and status (R174) -/

/-- R174: the 14 bytes of DESCRIBE. -/
def describeBytes : List Byte :=
  be16 7141 ++ be16 4200 ++ [3] ++ be16 Config.pointPlaces ++ [byteOf Config.outputPlaces, byteOf Config.bookingPlaces]
    ++ [16, 8, 5, byteOf Config.capturePlaces, byteOf Config.roomCapacity]

/-- DESCRIBE (R174). -/
def performDescribe (a : List Byte) (s : State) : Performed :=
  tested (firstFailing [(a.length != 0, .malformed)]) (done describeBytes) s

/-- R174: the wing time of READ_STATUS, all 255 while UNSET. -/
def wingBytes : Option WingTime → List Byte
  | some t => [byteOf t.weekday] ++ be16 t.minute ++ [byteOf t.second]
  | none => [255, 255, 255, 255]

/-- R174: a port's state and counts. -/
def portBytes (q : LinePort) : List Byte := flag8 q.up ++ be16 q.checkErrors ++ be16 q.relayDropped

/-- R173: page codes. -/
def pageCode : Page → Byte
  | .a => 0
  | .b => 1

/-- R174: the 31 bytes of READ_STATUS. -/
def statusBytes (s : State) : List Byte :=
  flag8 s.hold ++ [byteOf (s.clock.isSome.toNat + 2 * s.freeRunning.toNat)] ++ wingBytes s.clock
    ++ [pageCode s.activePage] ++ portBytes s.trunk ++ portBytes s.room ++ second32 s.elapsed
    ++ be16 s.matchUnits[0].hits ++ be16 s.matchUnits[1].hits ++ be16 s.matchUnits[2].hits
    ++ be16 s.matchUnits[3].hits ++ be16 s.matchUnits[4].hits

/-- READ_STATUS (R174). -/
def performReadStatus (a : List Byte) (s : State) : Performed :=
  tested (firstFailing [(a.length != 0, .malformed)]) (fun s => done (statusBytes s) s) s

/-! ### Parameters (R118, R124, R155, R175, R176) -/

/-- R175: a default disposition's code. -/
def defaultCode (pass : Bool) : Nat := if pass then 0 else 3

/-- R175: the value of a parameter, or none for an id outside the catalogue. -/
def Params.get (p : Params) (id : Nat) : Option Nat :=
  match id with
  | 1 => some (defaultCode p.trunkToRoomPass)
  | 2 => some (defaultCode p.roomToTrunkPass)
  | 3 => some p.statusBase
  | 4 => some p.noticePoint
  | 5 => some p.horizon
  | 6 => some p.confirmWindow
  | 7 => some p.quietTime
  | 8 => some p.quietTimeCounted
  | 9 => some p.holdoverBooked
  | 10 => some p.holdoverUnbooked
  | 11 => some p.noShowLimit
  | 12 => some p.qPerson
  | 13 => some p.qArea
  | 14 => some p.cSet
  | 15 => some p.kI
  | 16 => some p.rStep
  | 17 => some p.purge
  | 18 => some p.daylightGain
  | 19 => some p.shareWindow
  | 20 => some p.shareMiddle
  | 21 => some p.shareCorridor
  | 22 => some p.sunHigh
  | 23 => some p.sunLow
  | 24 => some p.glareHeight
  | 25 => some p.glareSlat
  | 26 => some p.blindSpacing
  | 27 => some p.blindTravel
  | 28 => some p.holdRunClasses
  | _ => none

/-- R175: the parameters with one value set. -/
def Params.put (p : Params) (id v : Nat) : Params :=
  match id with
  | 1 => { p with trunkToRoomPass := v == 0 }
  | 2 => { p with roomToTrunkPass := v == 0 }
  | 3 => { p with statusBase := v }
  | 4 => { p with noticePoint := v }
  | 5 => { p with horizon := v }
  | 6 => { p with confirmWindow := v }
  | 7 => { p with quietTime := v }
  | 8 => { p with quietTimeCounted := v }
  | 9 => { p with holdoverBooked := v }
  | 10 => { p with holdoverUnbooked := v }
  | 11 => { p with noShowLimit := v }
  | 12 => { p with qPerson := v }
  | 13 => { p with qArea := v }
  | 14 => { p with cSet := v }
  | 15 => { p with kI := v }
  | 16 => { p with rStep := v }
  | 17 => { p with purge := v }
  | 18 => { p with daylightGain := v }
  | 19 => { p with shareWindow := v }
  | 20 => { p with shareMiddle := v }
  | 21 => { p with shareCorridor := v }
  | 22 => { p with sunHigh := v }
  | 23 => { p with sunLow := v }
  | 24 => { p with glareHeight := v }
  | 25 => { p with glareSlat := v }
  | 26 => { p with blindSpacing := v }
  | 27 => { p with blindTravel := v }
  | 28 => { p with holdRunClasses := v }
  | _ => p

/-- R118, R124, R155, R175: the range of each parameter. -/
def paramRange (id : Nat) : Nat × Nat :=
  match id with
  | 1 | 2 => (0, 3)
  | 3 => (0, 4092)
  | 4 => (0, 4095)
  | 5 => (0, 480)
  | 6 => (10, 300)
  | 7 | 8 | 9 | 10 => (60, 3600)
  | 11 => (300, 3600)
  | 12 => (25, 150)
  | 13 => (0, 200)
  | 14 => (600, 1500)
  | 15 => (0, 500)
  | 16 => (20, 1000)
  | 17 => (0, 100)
  | 18 => (1, 200)
  | 19 | 20 | 21 => (0, 1000)
  | 22 => (50, 1500)
  | 23 => (0, 1450)
  | 24 | 25 => (0, 1000)
  | 26 => (10, 120)
  | 27 => (30, 180)
  | _ => (0, 7)

/-- R28, R155, R175, R176: whether a value is in range, with the cross-test of the sun thresholds. -/
def paramInRange (p : Params) (id v : Nat) : Bool :=
  (paramRange id).1 ≤ v && v ≤ (paramRange id).2
    && (match id with
        | 1 | 2 => v == 0 || v == 3
        | 22 => p.sunLow < v
        | 23 => v < p.sunHigh
        | _ => true)

/-- R176: whether a code has a point table entry or an outbound entry. -/
def codeInTables (s : State) (n : Nat) : Bool :=
  (findPoint s (BitVec.ofNat 12 n)).isSome || (outputOfCode s (BitVec.ofNat 12 n)).isSome

/-- R176: the test of the report points. -/
def paramDuplicate (s : State) (id v : Nat) : Bool :=
  match id with
  | 3 => [0, 1, 2, 3].any fun k => codeInTables s (v + k) || v + k == s.params.noticePoint
  | 4 => codeInTables s v || (s.params.statusBase ≤ v && v ≤ s.params.statusBase + 3)
  | _ => false

/-- R173: the reply data of SET_PARAMETER and READ_PARAMETER. -/
def paramBytes (id v : Nat) : List Byte := byteOf id :: be16 v

/-- SET_PARAMETER (R175, R176). -/
def performSetParameter (a : List Byte) (s : State) : Performed :=
  tested (firstFailing
      [ (a.length != 3, .malformed),
        ((s.params.get (u8 a 0)).isNone, .notFound),
        (!paramInRange s.params (u8 a 0) (u16 a 1), .outOfRange),
        (paramDuplicate s (u8 a 0) (u16 a 1), .duplicate) ])
    (fun s => done (paramBytes (u8 a 0) (u16 a 1)) { s with params := s.params.put (u8 a 0) (u16 a 1) }) s

/-- READ_PARAMETER (R175, R176). -/
def performReadParameter (a : List Byte) (s : State) : Performed :=
  tested (firstFailing [(a.length != 1, .malformed)])
    (fun s =>
      match s.params.get (u8 a 0) with
      | some v => done (paramBytes (u8 a 0) v) s
      | none => refuse .notFound s) s

/-! ### Notices on request (R177) -/

/-- R177: the detail of a notice, three zero bytes for a clear flag. -/
def noticeDetail (n : Notice) : List Byte := if n.flag then be24 (n.detail.getD 0).toNat else [0, 0, 0]

/-- R177: the 38 bytes of READ_NOTICES. -/
def noticeBytes (s : State) : List Byte :=
  be16 (noticeFlags s) ++ allNotices.flatMap fun k => noticeDetail (s.notice k)

/-- READ_NOTICES (R177). -/
def performReadNotices (a : List Byte) (s : State) : Performed :=
  tested (firstFailing [(a.length != 0, .malformed)]) (fun s => done (noticeBytes s) s) s

/-- R177: one kind is cleared where its bit of the mask is set. -/
def clearNotice (mask : Nat) (s : State) (k : NoticeKind) : State :=
  if mask.testBit k.code.val then s.withNotice k ⟨false, none, false⟩ else s

/-- R177: the masked kinds are cleared. -/
def clearNoticeSet (mask : Nat) (s : State) : State := allNotices.foldl (clearNotice mask) s

/-- CLEAR_NOTICES (R177). -/
def performClearNotices (a : List Byte) (s : State) : Performed :=
  tested (firstFailing [(a.length != 2, .malformed)])
    (fun s => done (be16 (noticeFlags (clearNoticeSet (u16 a 0) s))) (clearNoticeSet (u16 a 0) s)) s

end Sys2Proof.Machine
end

