-- ==== Sys2Proof/Machine/CommissionRequests.lean ====
section
/-! DEFINITION. The requests of the commissioning unit and the resets on request: SET_MATCH (R185), READ_CAPTURE (R187), HOLD
and RESUME (R183), DRIVE_POINT (R188), ROOM_RESET (R179), SOFT_RESET (R178); and the performance of each request code. -/

namespace Sys2Proof.Machine

/-! ### SET_MATCH (R185) -/

/-- R185: the side of a match unit by its code. -/
def MatchSide.ofCode : Nat → MatchSide
  | 0 => .room
  | 1 => .trunk
  | _ => .either

/-- R185: the unit a SET_MATCH carries, its hit count 0. -/
def matchUnitOf (a : List Byte) : MatchUnit where
  enable := u8 a 1 == 1
  side := MatchSide.ofCode (u8 a 2)
  onOrigin := u8 a 3 == 1
  value := u16 a 4
  hold := u8 a 6 == 1
  hits := 0

/-- R185: whether the arguments of SET_MATCH are in range. -/
def matchInRange (a : List Byte) : Bool :=
  1 ≤ u8 a 0 && u8 a 0 ≤ 5 && u8 a 1 ≤ 1 && u8 a 2 ≤ 2 && u8 a 3 ≤ 1 && u8 a 6 ≤ 1
    && (if u8 a 3 = 1 then u8 a 4 ≤ 15 && u8 a 5 != 0 && u8 a 5 != 255 else u16 a 4 ≤ 4095)

/-- SET_MATCH (R185). -/
def performSetMatch (a : List Byte) (s : State) : Performed :=
  tested (firstFailing
      [ (a.length != 7, .malformed),
        (!matchInRange a, .outOfRange) ])
    (fun s => done [] { s with matchUnits := s.matchUnits.set (Fin.ofNat 5 (u8 a 0 - 1)) (matchUnitOf a) }) s

/-! ### READ_CAPTURE (R187) -/

/-- R187: the reply data. -/
def captureBytes (s : State) : List Byte :=
  [byteOf (s.captures.take 2).length, byteOf s.overflow] ++ (s.captures.take 2).flatMap CaptureRecord.bytes

/-- READ_CAPTURE (R187). -/
def performReadCapture (a : List Byte) (s : State) : Performed :=
  tested (firstFailing [(a.length != 0, .malformed)])
    (fun s => done (captureBytes s) { s with captures := s.captures.drop 2, overflow := 0 }) s

/-! ### HOLD and RESUME (R183) -/

/-- HOLD (R183). -/
def performHold (a : List Byte) (s : State) : Performed :=
  tested (firstFailing [(a.length != 0, .malformed)]) (fun s => done [] (enterHold 0 s)) s

/-- RESUME (R183). -/
def performResume (a : List Byte) (s : State) : Performed :=
  tested (firstFailing [(a.length != 0, .malformed)]) (fun s => done [] (enterRun s)) s

/-! ### DRIVE_POINT (R188) -/

/-- R188: the code belongs to an outbound entry that is QUEUED. -/
def drivesQueued (s : State) (c : PointCode) : Bool :=
  match outputOfCode s c with
  | some e => e.state == .queued
  | none => false

/-- R188: the toggle of a drive's frame. -/
def toggleFor (s : State) (c : PointCode) : Bool :=
  match outputOfCode s c with
  | some e => e.toggle
  | none => s.driveToggle

/-- R188: the frame of a drive. -/
def driveFrame (s : State) (a : List Byte) : Frame :=
  ownFrame s .command 1 (BitVec.ofNat 12 (u16 a 0)) (toggleFor s (BitVec.ofNat 12 (u16 a 0)))
    ((a.drop 3).take (u8 a 2))

/-- R171, R188: the drive is in flight and its reply deferred; with the room port DOWN it ends at once. -/
def startDrive (rq : Requester) (a : List Byte) (s : State) : State :=
  let s1 := { s with
    drive := some ⟨driveFrame s a, false⟩
    deferred := some ⟨rq.port, rq.line, rq.node, rq.priority, none⟩ }
  if s.room.up then s1 else endDrive .unheard s1

/-- DRIVE_POINT (R188); no reply is offered now (R171). -/
def performDrivePoint (rq : Requester) (a : List Byte) (s : State) : Performed :=
  tested (firstFailing
      [ (!s.hold, .needsHold),
        (a.length != 11, .malformed),
        (4095 < u16 a 0 || 8 < u8 a 2, .outOfRange),
        (s.drive.isSome || s.deferred.isSome || drivesQueued s (BitVec.ofNat 12 (u16 a 0)), .inUse) ])
    (fun s => (startDrive rq a s, none)) s

/-! ### Resets on request (R178, R179) -/

/-- ROOM_RESET (R179). -/
def performRoomReset (a : List Byte) (s : State) : Performed :=
  tested (firstFailing [(a.length != 0, .malformed)])
    (fun s => done (flag8 s.room.up) (roomResetEvent s)) s

/-- SOFT_RESET (R178); a wrong length performs nothing (log 28). -/
def performSoftReset (a : List Byte) (s : State) : Performed :=
  tested (firstFailing [(a.length != 0, .malformed)]) (fun s => (softResetEvent 1 s, none)) s

/-! ### The request codes (R172) -/

/-- R172: the performance of a request code with its arguments. -/
def performCode (rq : Requester) (code : Byte) (a : List Byte) (s : State) : Performed :=
  match code.toNat with
  | 1 => performDescribe a s
  | 2 => performReadStatus a s
  | 3 => performLoadPoint a s
  | 4 => performDeletePoint a s
  | 5 => performReadPoint a s
  | 6 => performLoadZone a s
  | 7 => performReadZone a s
  | 8 => performLoadOutput a s
  | 9 => performDeleteOutput a s
  | 10 => performReadOutput a s
  | 11 => performLoadBooking a s
  | 12 => performClearStandby a s
  | 13 => performSwapPages a s
  | 14 => performReadBooking a s
  | 15 => performLoadScene a s
  | 16 => performLoadProfile a s
  | 17 => performSetParameter a s
  | 18 => performReadParameter a s
  | 19 => performSetOverride a s
  | 20 => performReadNotices a s
  | 21 => performClearNotices a s
  | 22 => performSetMatch a s
  | 23 => performReadCapture a s
  | 24 => performHold a s
  | 25 => performResume a s
  | 26 => performDrivePoint rq a s
  | 27 => performRoomReset a s
  | 28 => performSoftReset a s
  | _ => performUnknown s

/-- R169, R172: the responder takes the value of a MANAGE frame. -/
def takeManage (rq : Requester) (value : List Byte) (s : State) : State :=
  respond rq (valueCode value) (performCode rq (valueCode value) value.tail) s

end Sys2Proof.Machine
end

