-- ==== Sys2Proof/Machine/Relay.lean ====
section
/-! DEFINITION. The relay engine (chapter 2): classification, dispositions, relayed copies, MANAGE routing, QUERY answers, and
the arrival of a frame at a port (R6). -/

namespace Sys2Proof.Machine

/-! ### Relayed copies (R29, R36) -/

/-- R29: a relay of a frame that arrived on a port is possible. -/
def relayPossible (p : Port) (f : Frame) (s : State) : Bool := f.hop != 0 && (s.port (otherPort p)).up

/-- R36: the relayed copy under a target; the bits R4 leaves without a field are sent as 0. -/
def relayedCopy (f : Frame) (target : PointCode) : Frame := { f with hop := f.hop - 1, target := target, spare := 0 }

/-- R29: the offer of a relayed copy to the other port's queue. -/
def offerCopy (p : Port) (f : Frame) (target : PointCode) (owner : Owner) (s : State) : Option State :=
  offer (otherPort p) (relayedCopy f target) owner true s

/-- R10, R32, R34, R38: an unconfirmed copy is offered where a relay is possible, and dropped where there is no relay room. -/
def relayUnconfirmed (p : Port) (f : Frame) (target : PointCode) (s : State) : State :=
  if relayPossible p f s then (offerCopy p f target .relay s).getD (countDropped (otherPort p) s) else s

/-- R34: an unconfirmed or confirmed copy under a confirmed frame: ACK where it is admitted, BUSY where there is no relay
room, and `otherwise` where no relay is possible. -/
def relayConfirmed (p : Port) (f : Frame) (target : PointCode) (owner : Owner) (otherwise : State) (s : State) : State :=
  if relayPossible p f s then
    match offerCopy p f target owner s with
    | some s' => answer p (some .ack) s'
    | none => answer p (some .busy) s
  else otherwise

/-! ### Dispositions (R30 to R35) -/

/-- R30: whether a frame's value length fits an entry. -/
def fits (e : PointEntry) (f : Frame) : Bool :=
  match e.role with
  | some r => lengthFits r e.attachment f.value.length
  | none => false

/-- R31: whether a COMMAND is a repeat of the entry's last consumed COMMAND. -/
def repeatsLast (e : PointEntry) (f : Frame) : Bool :=
  e.lastCommand == some ⟨f.originLine, f.originNode, f.toggle⟩

/-- R39: the evidence unit takes a consumed frame. -/
def consume (e : PointEntry) (f : Frame) (s : State) : State :=
  match e.role with
  | some r => pointArrival e r f.value s
  | none => s

/-- R31, R39: a COMMAND that is new is recorded and consumed; a repeat is neither. -/
def consumeCommand (e : PointEntry) (f : Frame) (s : State) : State :=
  if repeatsLast e f then s
  else
    consume e f (updatePoint e.code
      (fun e => { e with lastCommand := some ⟨f.originLine, f.originNode, f.toggle⟩ }) s)

/-- R32: PASS under a target. -/
def passFrame (p : Port) (f : Frame) (target : PointCode) (s : State) : State :=
  if f.kind = .command then relayConfirmed p f target (.delivery f.target 0) s s
  else relayUnconfirmed p f target s

/-- R33: TAKE. -/
def takeFrame (p : Port) (e : PointEntry) (f : Frame) (s : State) : State :=
  match f.kind with
  | .query => s
  | .command => if fits e f then consumeCommand e f (answer p (some .ack) s) else answer p (some .nak) s
  | _ => if fits e f then consume e f s else s

/-- R34: the COMMAND part of COPY, whose length fits. -/
def copyCommand (p : Port) (e : PointEntry) (f : Frame) (target : PointCode) (s : State) : State :=
  if relayPossible p f s then
    match offerCopy p f target (.delivery f.target 0) s with
    | some s' => consumeCommand e f (answer p (some .ack) s')
    | none => answer p (some .busy) s
  else consumeCommand e f (answer p (some .ack) s)

/-- R34: COPY. -/
def copyFrame (p : Port) (e : PointEntry) (f : Frame) (target : PointCode) (s : State) : State :=
  match f.kind with
  | .query => passFrame p f target s
  | .command => if fits e f then copyCommand p e f target s else answer p (some .nak) s
  | _ => if fits e f then consume e f (relayUnconfirmed p f target s) else s

/-- R35: a listed BLOCK. -/
def blockFrame (p : Port) (f : Frame) (s : State) : State :=
  if f.kind = .command then answer p (some .nak) s else s

/-- R32 to R36: a listed frame under its entry's disposition. -/
def listedFrame (p : Port) (e : PointEntry) (f : Frame) (s : State) : State :=
  match e.disposition with
  | .pass => passFrame p f (e.relayCode.getD f.target) s
  | .take => takeFrame p e f s
  | .copy => copyFrame p e f (e.relayCode.getD f.target) s
  | .block => blockFrame p f s

/-- R28: whether the default disposition of a direction is PASS. -/
def defaultPass (p : Port) (s : State) : Bool :=
  match p with
  | .trunk => s.params.trunkToRoomPass
  | .room => s.params.roomToTrunkPass

/-- R28: an unlisted frame. -/
def unlistedFrame (p : Port) (f : Frame) (s : State) : State :=
  if defaultPass p s then passFrame p f f.target s else s

/-- R27: the entry that lists a frame: of its code, on the side of its arrival port. -/
def listingEntry (p : Port) (f : Frame) (s : State) : Option PointEntry :=
  match findPoint s f.target with
  | some e => if e.side = p then some e else none
  | none => none

/-! ### QUERY answers (R43) -/

/-- R43: the value of a report point. -/
def reportValue (s : State) (c : PointCode) : List Byte :=
  if c = noticeCode s then be16 (noticeFlags s)
  else
    match allZones.find? fun z => c == statusCode s z with
    | some z =>
      match s.groups[z] with
      | some g => g.report
      | none => []
    | none => []

/-- R43: a QUERY for a report point is answered on the port it arrived on; a refused REPLY is lost. -/
def answerQuery (p : Port) (f : Frame) (s : State) : State :=
  (offer p (ownFrame s .reply f.priority f.target false (reportValue s f.target)) .relay false s).getD s

/-! ### MANAGE routing (R37, R38) -/

/-- R37: the target line and node are the device's own address. -/
def forDevice (s : State) (f : Frame) : Bool :=
  f.target.extractLsb' 8 4 == s.address.trunkLine && f.target.extractLsb' 0 8 == s.address.node

/-- R37: cases 2 and 3: the frame is routed to the other line. -/
def routedAcross (p : Port) (s : State) (f : Frame) : Bool :=
  match p with
  | .trunk => f.target.extractLsb' 8 4 == s.address.roomLine
  | .room => f.target.extractLsb' 8 4 != s.address.roomLine

/-- R169: the requester of a MANAGE frame. -/
def requesterOf (p : Port) (f : Frame) : Requester :=
  ⟨p, f.originLine, f.originNode, f.priority, f.toggle, f.hop, f.spare⟩

/-- R37: a good MANAGE frame. -/
def manageFrame (p : Port) (f : Frame) (s : State) : State :=
  if forDevice s f then takeManage (requesterOf p f) f.value s
  else if routedAcross p s f then relayConfirmed p f f.target .relay s s
  else s

/-- R38: a good MANAGE_REPLY frame. -/
def manageReplyFrame (p : Port) (f : Frame) (s : State) : State :=
  if forDevice s f then s
  else if routedAcross p s f then relayUnconfirmed p f f.target s
  else s

/-! ### Classification and arrival (R6, R27) -/

/-- R27: a frame of a point kind. -/
def pointFrame (p : Port) (f : Frame) (s : State) : State :=
  if f.kind = .query ∧ isReportPoint s f.target then answerQuery p f s
  else
    match listingEntry p f s with
    | some e => listedFrame p e f s
    | none => unlistedFrame p f s

/-- R27: a good frame is classified and handled. -/
def classify (p : Port) (f : Frame) (s : State) : State :=
  match f.kind with
  | .manage => manageFrame p f s
  | .manageReply => manageReplyFrame p f s
  | _ => pointFrame p f s

/-- R6, R185: a frame is received: counted where it is malformed, else shown to the match units and handed on. -/
def receive (p : Port) (bytes : List Byte) (s : State) : State :=
  match Frame.decode bytes with
  | none => countMalformed p s
  | some f => classify p f (showFrame false p f s)

/-- R6: a frame arrives; one begun before its reception was cut off is abandoned (log 9). -/
def frameArrives (p : Port) (bytes : List Byte) (begun : Nat) (s : State) : State :=
  if receiving p s && begun == (s.port p).cuts then receive p bytes s else s

/-- R11: the device's frame loses arbitration: it returns to WAITING, and the winning frame arrives; one whose reception was
cut off meanwhile is abandoned (R17, R18, log 9). -/
def arbitrationLoses (p : Port) (winner : List Byte) (begun : Nat) (s : State) : State :=
  match sendingOf (s.port p).queue with
  | some q => if losesTo q.frame.encode winner then frameArrives p winner begun (setSending p q.order false s) else s
  | none => s

end Sys2Proof.Machine
end

