-- ==== Sys2Proof/Machine/Time.lean ====
section
/-! DEFINITION. Time (R80, R81): the events an elapsed second makes due, each taken by its own command, and the tick of the
elapsed second, which first takes what the second before left untaken (log 3). -/

namespace Sys2Proof.Machine

/-! ### The events of a second -/

/-- R81, R91: the minute boundary, where it is due. -/
def takeMinute (s : State) : State :=
  if s.due.minute then advanceWing { s with due := { s.due with minute := false } } else s

/-- R111: the tick of the group that holds a zone, where it has not been taken this second. -/
def takeGroupTick (s : State) (z : Zone) : State := if s.due.groupTick[z] then groupTick z s else s

/-- R111: the tick of the group of a zone, where it is due and one of the table's expiries is reached. -/
def takeExpiry (expires : State → Group → Bool) (z : Zone) (s : State) : State :=
  match groupOf s z with
  | some (_, g) => if expires s g then takeGroupTick s z else s
  | none => s

/-- R121: the periodic evaluation of a zone, where it is due. -/
def takePeriodic (s : State) (z : Zone) : State :=
  if s.due.periodic[z] then
    airEvaluateZones true [z] { s with due := { s.due with periodic := s.due.periodic.set z false } }
  else s

/-- R122, R136: the window dwell is reached while opened-at still holds its value. -/
def dwellReached (s : State) (z : Zone) : Bool :=
  match s.evidence[z].windowOpenedAt with
  | some a => a + Config.windowDwell == s.elapsed
  | none => false

/-- R122: the window dwell of a zone, where it is due. -/
def takeDwell (s : State) (z : Zone) : State :=
  if s.due.dwell[z] then
    let s1 := { s with due := { s.due with dwell := s.due.dwell.set z false } }
    if dwellReached s1 z then airEvaluateZones false [z] s1 else s1
  else s

/-- R148: the light tick of a zone, where it is due. -/
def takeLightTick (s : State) (z : Zone) : State :=
  if s.due.lightTick[z] then
    lightTickZone z { s with due := { s.due with lightTick := s.due.lightTick.set z false } }
  else s

/-- R150: the spacing end of a zone is this second. -/
def spacingEndsNow (s : State) (z : Zone) : Bool :=
  match s.light[z].lastSend with
  | some l => l + s.params.blindSpacing == s.elapsed
  | none => false

/-- R150: the spacing end of a zone. -/
def takeSpacingEnd (s : State) (z : Zone) : State :=
  if spacingEndsNow s z && present s z then testBlind z s else s

/-- R166: the timer of an entry, whatever its state. -/
def takeTimer (s : State) (i : OutIndex) : State :=
  updateOutput i (fun e => ((e.backoffEnds s.elapsed).reattempts s.elapsed).refreshes s.elapsed) s

/-! ### The tick of the elapsed second (R80) -/

/-- An event of its own with the offers that end it (log 6). -/
def asEvent {α : Type} (f : State → α → State) (s : State) (a : α) : State := settle (f s a)

/-- R49: the silence expiry of a code, as a step of the sweep. -/
def expireSilence (s : State) (c : PointCode) : State := silenceExpires c s

/-- The events of the second that no command has taken yet, each an event of its own, in one fixed order (log 3). -/
def sweep (s : State) : State :=
  let s1 := settle (takeMinute s)
  let s2 := (s1.points.map (·.code)).foldl (asEvent expireSilence) s1
  let s3 := allZones.foldl (asEvent takeGroupTick) s2
  let s4 := allZones.foldl (asEvent takeDwell) s3
  let s5 := allZones.foldl (asEvent takePeriodic) s4
  let s6 := allZones.foldl (asEvent takeLightTick) s5
  let s7 := allZones.foldl (asEvent takeSpacingEnd) s6
  (s7.outputs.map (·.index)).foldl (asEvent takeTimer) s7

/-- R81: whether the next advance of wing time is a minute boundary. -/
def minuteDue (s : State) : Bool :=
  match s.clock with
  | some w => w.second == 59
  | none => false

/-- R81: wing time advances with the second, but for the advance that is a minute boundary. -/
def advanceClock (s : State) : State := if minuteDue s then s else advanceWing s

/-- The marks of what the second has made due (R111, R121, R122, R148), for the zones present at its tick: a zone that a
LOAD_ZONE of the same second first makes present, after the tick, has no event of that second (DESIGN CHOICE, log 3). -/
def markDue (s : State) : State :=
  { s with due :=
      { minute := minuteDue s
        groupTick := forZones fun z => present s z
        periodic := forZones fun z => isMultiple s.elapsed 30 && present s z
        dwell := forZones fun z => present s z && dwellReached s z
        lightTick := forZones fun z => isMultiple s.elapsed 10 && present s z } }

/-- R96, R103: the quiet-time check of a group is held by an EXAM booking while a minute boundary that could end it is due. -/
def examAwaits (s : State) (g : Group) : Bool :=
  s.due.minute && g.effOverride == .auto && g.state == .occupied && examHolds s g

/-- R103, R112: whether QUIET_TIME_EXPIRY takes the tick of a group: its quiet time runs out, or no other expiry of the table
is reached in a tick left due, which then is the quiet-time check alone, before a boundary that could end an EXAM booking or
after evidence that was taken first (log 3). -/
def quietTaken (s : State) (g : Group) : Bool :=
  quietReached s g || !(overrideReached s g || holdoverReached s g || noShowReached s g)

/-- R111: the tick of a group in which nothing of the opcode table expires is taken with the second itself, before every
other event of that second; one that an EXAM booking holds at a minute boundary is left due (log 3). -/
def quietTick (s : State) (z : Zone) : State :=
  match groupOf s z with
  | some (_, g) => if tickExpires s g || examAwaits s g then s else takeGroupTick s z
  | none => s

/-- R80: the elapsed-second count increases by one. -/
def tickSecond (s : State) : State :=
  let s0 := sweep s
  let s1 := markDue { s0 with elapsed := s0.elapsed + 1 }
  allZones.foldl quietTick (advanceClock s1)

end Sys2Proof.Machine
end

