-- ==== Sys2Proof/Machine/Lines.lean ====
section
/-! DEFINITION. The meanings of the resets, the power events and the frame events of the two lines (chapter 1). -/

namespace Sys2Proof.Machine

/-- What every command begins and ends with: no pin is driven, and the offers the event prompts are made (log 6, log 12). -/
def event (f : State → State) (s : State) : Host.Outcome State Fault Refusal :=
  .next (settle (f (clearPins s)))

/-- R18: the signal on the trunk line is seen to begin. -/
def signalSeen (s : State) : State := if s.trunk.up then { s with trunkSignal := true } else s

/-- R18: at the end of a signal that the trunk port saw while UP, a soft reset with cause 2. -/
def signalEnds (s : State) : State :=
  if s.trunkSignal || s.trunk.up then softResetEvent 2 { s with trunkSignal := false } else s

/-- POWER_ON_RESET (R7, R20): the straps are read and every state returns to its initial value. -/
def execPowerOnReset (trunkLine roomLine : BitVec 4) (node : Byte) (s : State) : Host.Outcome State Fault Refusal :=
  event (powerOnEvent ⟨trunkLine, roomLine, node⟩) s

/-- LINE_POWER_UP (R1, R3). -/
def execLinePowerUp (p : Port) (s : State) : Host.Outcome State Fault Refusal :=
  event (powerUp p) s

/-- LINE_POWER_LOSS (R1, R2). -/
def execLinePowerLoss (p : Port) (s : State) : Host.Outcome State Fault Refusal :=
  event (powerLoss p) s

/-- FRAME_ARRIVAL (R6, R27). -/
def execFrameArrival (p : Port) (bytes : List Byte) (begun : Nat) (s : State) : Host.Outcome State Fault Refusal :=
  event (frameArrives p bytes begun) s

/-- FRAME_START (R11). -/
def execFrameStart (p : Port) (s : State) : Host.Outcome State Fault Refusal :=
  event (startHead p) s

/-- ARBITRATION_LOST (R11). -/
def execArbitrationLost (p : Port) (winner : Reception) (s : State) : Host.Outcome State Fault Refusal :=
  event (arbitrationLoses p winner.bytes winner.begun) s

/-- TRANSMISSION_OUTCOME (R9, R13). -/
def execTransmissionOutcome (p : Port) (heard : Option (Byte × Byte)) (s : State) : Host.Outcome State Fault Refusal :=
  event (outcomeFixed p heard) s

/-- TRUNK_LINE_RESET_SIGNAL (R18): the signal ends; a signal seen while the trunk port was UP resets the device (log 10). -/
def execTrunkLineResetSignal (s : State) : Host.Outcome State Fault Refusal :=
  event signalEnds s

/-- ROOM_LINE_RESET_SIGNAL (R17): ignored; a frame in reception on the room line is not taken. -/
def execRoomLineResetSignal (s : State) : Host.Outcome State Fault Refusal :=
  event (cutReception .room) s

/-- TRUNK_RESET_SIGNAL_SEEN (R18): the signal begins while the trunk port is UP (log 10). -/
def execTrunkResetSignalSeen (s : State) : Host.Outcome State Fault Refusal :=
  event signalSeen s

end Sys2Proof.Machine
end

