-- ==== Sys2Proof/Machine/OfferCommands.lean ====
section
/-! DEFINITION. The meanings of the offers the opcode table lists as steps of their own (R117, R162, R171, R181, R188). -/

namespace Sys2Proof.Machine

/-- OUTBOUND_ADMISSION (R162): the arbiter admits eligible PENDING entries. -/
def execOutboundAdmission (s : State) : Host.Outcome State Fault Refusal :=
  event arbiter s

/-- DRIVE_REOFFER (R188): a drive that found the room queue full offers its frame again. -/
def execDriveReoffer (s : State) : Host.Outcome State Fault Refusal :=
  event offerDrive s

/-- DEFERRED_REPLY_OFFER (R171): a deferred reply refused at its offer is offered again. -/
def execDeferredReplyOffer (s : State) : Host.Outcome State Fault Refusal :=
  event (fun s => offerDeferred .room (offerDeferred .trunk s)) s

/-- NOTICE_OFFER (R181): pending notices are offered, behind a deferred reply for the trunk queue. -/
def execNoticeOffer (s : State) : Host.Outcome State Fault Refusal :=
  event (fun s => offerNotices (offerDeferred .trunk s)) s

/-- GROUP_REPORT_OFFER (R117, R181): pending reports are offered, behind the deferred reply and the notices. -/
def execGroupReportOffer (s : State) : Host.Outcome State Fault Refusal :=
  event settleTrunk s

end Sys2Proof.Machine
end

