-- ==== Sys2Proof/Machine/TimeCommands.lean ====
section
/-! DEFINITION. The meanings of the time events (R49, R80, R81, R103, R104, R106, R108, R121, R136, R148, R150, R166). A command whose event is not due has no effect (log 4). -/

namespace Sys2Proof.Machine

/-- ELAPSED_SECOND_TICK (R80, R81, R111). -/
def execElapsedSecondTick (s : State) : Host.Outcome State Fault Refusal :=
  event tickSecond s

/-- MINUTE_BOUNDARY (R81, R91). -/
def execMinuteBoundary (s : State) : Host.Outcome State Fault Refusal :=
  event takeMinute s

/-- SILENCE_EXPIRY (R49). -/
def execSilenceExpiry (code : PointCode) (s : State) : Host.Outcome State Fault Refusal :=
  event (silenceExpires code) s

/-- OVERRIDE_EXPIRY (R108), in the group tick (R111). -/
def execOverrideExpiry (z : Zone) (s : State) : Host.Outcome State Fault Refusal :=
  event (takeExpiry overrideReached z) s

/-- HOLDOVER_EXPIRY (R104), in the group tick (R111). -/
def execHoldoverExpiry (z : Zone) (s : State) : Host.Outcome State Fault Refusal :=
  event (takeExpiry holdoverReached z) s

/-- NO_SHOW_EXPIRY (R106), in the group tick (R111). -/
def execNoShowExpiry (z : Zone) (s : State) : Host.Outcome State Fault Refusal :=
  event (takeExpiry noShowReached z) s

/-- QUIET_TIME_EXPIRY (R103), in the group tick (R111). -/
def execQuietTimeExpiry (z : Zone) (s : State) : Host.Outcome State Fault Refusal :=
  event (takeExpiry quietTaken z) s

/-- PERIODIC_EVALUATION (R121, R125). -/
def execPeriodicEvaluation (z : Zone) (s : State) : Host.Outcome State Fault Refusal :=
  event (fun s => takePeriodic s z) s

/-- WINDOW_DWELL (R122, R136). -/
def execWindowDwell (z : Zone) (s : State) : Host.Outcome State Fault Refusal :=
  event (fun s => takeDwell s z) s

/-- LIGHT_TICK (R148). -/
def execLightTick (z : Zone) (s : State) : Host.Outcome State Fault Refusal :=
  event (fun s => takeLightTick s z) s

/-- SPACING_END (R150). -/
def execSpacingEnd (z : Zone) (s : State) : Host.Outcome State Fault Refusal :=
  event (fun s => takeSpacingEnd s z) s

/-- BACKOFF_END (R166). -/
def execBackoffEnd (i : OutIndex) (s : State) : Host.Outcome State Fault Refusal :=
  event (fun s => updateOutput i (fun e => e.backoffEnds s.elapsed) s) s

/-- REATTEMPT (R166). -/
def execReattempt (i : OutIndex) (s : State) : Host.Outcome State Fault Refusal :=
  event (fun s => updateOutput i (fun e => e.reattempts s.elapsed) s) s

/-- REFRESH (R166). -/
def execRefresh (i : OutIndex) (s : State) : Host.Outcome State Fault Refusal :=
  event (fun s => updateOutput i (fun e => e.refreshes s.elapsed) s) s

end Sys2Proof.Machine
end

