-- ==== Sys2Proof/Machine/Requests.lean ====
section
/-! DEFINITION. The meanings of the MANAGE requests (chapters 10 and 11): the responder's tests (R169) around the performance of each. -/

namespace Sys2Proof.Machine

/-- A request command: an event like any other (log 6), the arrival of the request's frame (log 5). -/
def requested (rq : Requester) (value : List Byte) (perform : State → Performed) (s : State) :
    Host.Outcome State Fault Refusal :=
  event (request rq value perform) s

/-- UNKNOWN_REQUEST (R172): answered MALFORMED under the code received; a value that begins with a listed code is that
request (log 5). -/
def execUnknownRequest (rq : Requester) (value : List Byte) (s : State) : Host.Outcome State Fault Refusal :=
  requested rq value (performCode rq (valueCode value) value.tail) s

/-- DESCRIBE (R172, code 1). -/
def execDescribe (rq : Requester) (args : List Byte) (s : State) : Host.Outcome State Fault Refusal :=
  requested rq (1 :: args) (performDescribe args) s

/-- READ_STATUS (R172, code 2). -/
def execReadStatus (rq : Requester) (args : List Byte) (s : State) : Host.Outcome State Fault Refusal :=
  requested rq (2 :: args) (performReadStatus args) s

/-- LOAD_POINT (R172, code 3). -/
def execLoadPoint (rq : Requester) (args : List Byte) (s : State) : Host.Outcome State Fault Refusal :=
  requested rq (3 :: args) (performLoadPoint args) s

/-- DELETE_POINT (R172, code 4). -/
def execDeletePoint (rq : Requester) (args : List Byte) (s : State) : Host.Outcome State Fault Refusal :=
  requested rq (4 :: args) (performDeletePoint args) s

/-- READ_POINT (R172, code 5). -/
def execReadPoint (rq : Requester) (args : List Byte) (s : State) : Host.Outcome State Fault Refusal :=
  requested rq (5 :: args) (performReadPoint args) s

/-- LOAD_ZONE (R172, code 6). -/
def execLoadZone (rq : Requester) (args : List Byte) (s : State) : Host.Outcome State Fault Refusal :=
  requested rq (6 :: args) (performLoadZone args) s

/-- READ_ZONE (R172, code 7). -/
def execReadZone (rq : Requester) (args : List Byte) (s : State) : Host.Outcome State Fault Refusal :=
  requested rq (7 :: args) (performReadZone args) s

/-- LOAD_OUTPUT (R172, code 8). -/
def execLoadOutput (rq : Requester) (args : List Byte) (s : State) : Host.Outcome State Fault Refusal :=
  requested rq (8 :: args) (performLoadOutput args) s

/-- DELETE_OUTPUT (R172, code 9). -/
def execDeleteOutput (rq : Requester) (args : List Byte) (s : State) : Host.Outcome State Fault Refusal :=
  requested rq (9 :: args) (performDeleteOutput args) s

/-- READ_OUTPUT (R172, code 10). -/
def execReadOutput (rq : Requester) (args : List Byte) (s : State) : Host.Outcome State Fault Refusal :=
  requested rq (10 :: args) (performReadOutput args) s

/-- LOAD_BOOKING (R172, code 11). -/
def execLoadBooking (rq : Requester) (args : List Byte) (s : State) : Host.Outcome State Fault Refusal :=
  requested rq (11 :: args) (performLoadBooking args) s

/-- CLEAR_STANDBY (R172, code 12). -/
def execClearStandby (rq : Requester) (args : List Byte) (s : State) : Host.Outcome State Fault Refusal :=
  requested rq (12 :: args) (performClearStandby args) s

/-- SWAP_PAGES (R172, code 13). -/
def execSwapPages (rq : Requester) (args : List Byte) (s : State) : Host.Outcome State Fault Refusal :=
  requested rq (13 :: args) (performSwapPages args) s

/-- READ_BOOKING (R172, code 14). -/
def execReadBooking (rq : Requester) (args : List Byte) (s : State) : Host.Outcome State Fault Refusal :=
  requested rq (14 :: args) (performReadBooking args) s

/-- LOAD_SCENE (R172, code 15). -/
def execLoadScene (rq : Requester) (args : List Byte) (s : State) : Host.Outcome State Fault Refusal :=
  requested rq (15 :: args) (performLoadScene args) s

/-- LOAD_PROFILE (R172, code 16). -/
def execLoadProfile (rq : Requester) (args : List Byte) (s : State) : Host.Outcome State Fault Refusal :=
  requested rq (16 :: args) (performLoadProfile args) s

/-- SET_PARAMETER (R172, code 17). -/
def execSetParameter (rq : Requester) (args : List Byte) (s : State) : Host.Outcome State Fault Refusal :=
  requested rq (17 :: args) (performSetParameter args) s

/-- READ_PARAMETER (R172, code 18). -/
def execReadParameter (rq : Requester) (args : List Byte) (s : State) : Host.Outcome State Fault Refusal :=
  requested rq (18 :: args) (performReadParameter args) s

/-- SET_OVERRIDE (R172, code 19). -/
def execSetOverride (rq : Requester) (args : List Byte) (s : State) : Host.Outcome State Fault Refusal :=
  requested rq (19 :: args) (performSetOverride args) s

/-- READ_NOTICES (R172, code 20). -/
def execReadNotices (rq : Requester) (args : List Byte) (s : State) : Host.Outcome State Fault Refusal :=
  requested rq (20 :: args) (performReadNotices args) s

/-- CLEAR_NOTICES (R172, code 21). -/
def execClearNotices (rq : Requester) (args : List Byte) (s : State) : Host.Outcome State Fault Refusal :=
  requested rq (21 :: args) (performClearNotices args) s

/-- SET_MATCH (R172, code 22). -/
def execSetMatch (rq : Requester) (args : List Byte) (s : State) : Host.Outcome State Fault Refusal :=
  requested rq (22 :: args) (performSetMatch args) s

/-- READ_CAPTURE (R172, code 23). -/
def execReadCapture (rq : Requester) (args : List Byte) (s : State) : Host.Outcome State Fault Refusal :=
  requested rq (23 :: args) (performReadCapture args) s

/-- HOLD (R172, code 24). -/
def execHold (rq : Requester) (args : List Byte) (s : State) : Host.Outcome State Fault Refusal :=
  requested rq (24 :: args) (performHold args) s

/-- RESUME (R172, code 25). -/
def execResume (rq : Requester) (args : List Byte) (s : State) : Host.Outcome State Fault Refusal :=
  requested rq (25 :: args) (performResume args) s

/-- DRIVE_POINT (R172, code 26). -/
def execDrivePoint (rq : Requester) (args : List Byte) (s : State) : Host.Outcome State Fault Refusal :=
  requested rq (26 :: args) (performDrivePoint rq args) s

/-- ROOM_RESET (R172, code 27). -/
def execRoomReset (rq : Requester) (args : List Byte) (s : State) : Host.Outcome State Fault Refusal :=
  requested rq (27 :: args) (performRoomReset args) s

/-- SOFT_RESET (R172, code 28). -/
def execSoftReset (rq : Requester) (args : List Byte) (s : State) : Host.Outcome State Fault Refusal :=
  requested rq (28 :: args) (performSoftReset args) s

end Sys2Proof.Machine
end

