-- ==== Sys2Proof/Machine/Dispatch.lean ====
section
/-! DEFINITION. One arm per command: the direct call of its meaning. -/

namespace Sys2Proof.Machine

/-- The effect of a command on everything but the queue of waiting commands. -/
def exec (i : Instr) (s : State) : Host.Outcome State Fault Refusal :=
  match i with
  | .powerOnReset t r n => Sys2Proof.Machine.execPowerOnReset t r n s
  | .linePowerUp p => Sys2Proof.Machine.execLinePowerUp p s
  | .linePowerLoss p => Sys2Proof.Machine.execLinePowerLoss p s
  | .frameArrival p bytes begun => Sys2Proof.Machine.execFrameArrival p bytes begun s
  | .frameStart p => Sys2Proof.Machine.execFrameStart p s
  | .arbitrationLost p winner => Sys2Proof.Machine.execArbitrationLost p winner s
  | .transmissionOutcome p heard => Sys2Proof.Machine.execTransmissionOutcome p heard s
  | .outboundAdmission => Sys2Proof.Machine.execOutboundAdmission s
  | .driveReoffer => Sys2Proof.Machine.execDriveReoffer s
  | .deferredReplyOffer => Sys2Proof.Machine.execDeferredReplyOffer s
  | .noticeOffer => Sys2Proof.Machine.execNoticeOffer s
  | .groupReportOffer => Sys2Proof.Machine.execGroupReportOffer s
  | .trunkLineResetSignal => Sys2Proof.Machine.execTrunkLineResetSignal s
  | .roomLineResetSignal => Sys2Proof.Machine.execRoomLineResetSignal s
  | .elapsedSecondTick => Sys2Proof.Machine.execElapsedSecondTick s
  | .minuteBoundary => Sys2Proof.Machine.execMinuteBoundary s
  | .silenceExpiry code => Sys2Proof.Machine.execSilenceExpiry code s
  | .overrideExpiry z => Sys2Proof.Machine.execOverrideExpiry z s
  | .holdoverExpiry z => Sys2Proof.Machine.execHoldoverExpiry z s
  | .noShowExpiry z => Sys2Proof.Machine.execNoShowExpiry z s
  | .quietTimeExpiry z => Sys2Proof.Machine.execQuietTimeExpiry z s
  | .periodicEvaluation z => Sys2Proof.Machine.execPeriodicEvaluation z s
  | .windowDwell z => Sys2Proof.Machine.execWindowDwell z s
  | .lightTick z => Sys2Proof.Machine.execLightTick z s
  | .spacingEnd z => Sys2Proof.Machine.execSpacingEnd z s
  | .backoffEnd k => Sys2Proof.Machine.execBackoffEnd k s
  | .reattempt k => Sys2Proof.Machine.execReattempt k s
  | .refresh k => Sys2Proof.Machine.execRefresh k s
  | .unknownRequest rq value => Sys2Proof.Machine.execUnknownRequest rq value s
  | .describe rq args => Sys2Proof.Machine.execDescribe rq args s
  | .readStatus rq args => Sys2Proof.Machine.execReadStatus rq args s
  | .loadPoint rq args => Sys2Proof.Machine.execLoadPoint rq args s
  | .deletePoint rq args => Sys2Proof.Machine.execDeletePoint rq args s
  | .readPoint rq args => Sys2Proof.Machine.execReadPoint rq args s
  | .loadZone rq args => Sys2Proof.Machine.execLoadZone rq args s
  | .readZone rq args => Sys2Proof.Machine.execReadZone rq args s
  | .loadOutput rq args => Sys2Proof.Machine.execLoadOutput rq args s
  | .deleteOutput rq args => Sys2Proof.Machine.execDeleteOutput rq args s
  | .readOutput rq args => Sys2Proof.Machine.execReadOutput rq args s
  | .loadBooking rq args => Sys2Proof.Machine.execLoadBooking rq args s
  | .clearStandby rq args => Sys2Proof.Machine.execClearStandby rq args s
  | .swapPages rq args => Sys2Proof.Machine.execSwapPages rq args s
  | .readBooking rq args => Sys2Proof.Machine.execReadBooking rq args s
  | .loadScene rq args => Sys2Proof.Machine.execLoadScene rq args s
  | .loadProfile rq args => Sys2Proof.Machine.execLoadProfile rq args s
  | .setParameter rq args => Sys2Proof.Machine.execSetParameter rq args s
  | .readParameter rq args => Sys2Proof.Machine.execReadParameter rq args s
  | .setOverride rq args => Sys2Proof.Machine.execSetOverride rq args s
  | .readNotices rq args => Sys2Proof.Machine.execReadNotices rq args s
  | .clearNotices rq args => Sys2Proof.Machine.execClearNotices rq args s
  | .setMatch rq args => Sys2Proof.Machine.execSetMatch rq args s
  | .readCapture rq args => Sys2Proof.Machine.execReadCapture rq args s
  | .hold rq args => Sys2Proof.Machine.execHold rq args s
  | .resume rq args => Sys2Proof.Machine.execResume rq args s
  | .drivePoint rq args => Sys2Proof.Machine.execDrivePoint rq args s
  | .roomReset rq args => Sys2Proof.Machine.execRoomReset rq args s
  | .softReset rq args => Sys2Proof.Machine.execSoftReset rq args s
  | .trunkResetSignalSeen => Sys2Proof.Machine.execTrunkResetSignalSeen s

end Sys2Proof.Machine
end

