-- ==== Sys2Proof/Safety.lean ====
section
/-! DEFINITION. What the claims speak of: the bounds and invariants of the device's state, and when a request is taken. The
spec describes no event that stops the device, so a run is safe when these hold all along it. -/

namespace Sys2Proof.Machine

/-! ### Transmit queues (R1, R2, R10, R11) -/

/-- R10: a queue keeps its capacity and its relay share. -/
abbrev QueueBounded (p : Port) (q : LinePort) : Prop :=
  q.queue.length ≤ capacity p ∧ relayedCount q.queue ≤ relayShare p

/-- R10, R11: the orders of admission rise along the queue and lie below the next one, and at most one frame is SENDING. -/
abbrev QueueOrdered (q : LinePort) : Prop :=
  q.queue.Pairwise (fun a b => a.order < b.order) ∧ (∀ e ∈ q.queue, e.order < q.nextOrder) ∧
    (q.queue.filter (·.sending)).length ≤ 1

/-- R1, R2: the queue of a DOWN port is empty. -/
abbrev EmptyWhenDown (q : LinePort) : Prop := q.up = false → q.queue = []

/-- The transmit queues of both ports are as chapter 1 states. -/
abbrev QueuesSound (s : State) : Prop :=
  (QueueBounded .room s.room ∧ QueueOrdered s.room ∧ EmptyWhenDown s.room) ∧
  (QueueBounded .trunk s.trunk ∧ QueueOrdered s.trunk ∧ EmptyWhenDown s.trunk)

/-- R7: a node number of 0 or 255 has both ports DOWN. -/
abbrev PortsHeldDown (s : State) : Prop :=
  s.address.node = 0 ∨ s.address.node = 255 → s.room.up = false ∧ s.trunk.up = false

/-! ### Counts and tables (R19, R21, R87, R157, R185, R186) -/

/-- R19, R81, R185, R186: the counts and wing time stay within their ranges and the capture queue within its places. -/
abbrev CountsSound (s : State) : Prop :=
  s.room.checkErrors ≤ 65535 ∧ s.room.relayDropped ≤ 65535 ∧ s.trunk.checkErrors ≤ 65535 ∧
  s.trunk.relayDropped ≤ 65535 ∧ (∀ u : Fin 5, s.matchUnits[u].hits ≤ 65535) ∧ s.overflow ≤ 255 ∧
  s.captures.length ≤ 32 ∧ ∀ w ∈ s.clock, w.weekday ≤ 6 ∧ w.minute ≤ 1439 ∧ w.second ≤ 59

/-- R21: the point table is in ascending code order, each code at most once, with at most 384 entries. -/
abbrev PointsSound (s : State) : Prop :=
  s.points.Pairwise (fun a b => a.code.toNat < b.code.toNat) ∧ s.points.length ≤ 384

/-- R157: the outbound table holds each index at most once (in ascending order). -/
abbrev OutputsSound (s : State) : Prop := s.outputs.Pairwise (fun a b => a.index.val < b.index.val)

/-- R87, R88: a page is in its order, holds each id once and no two bookings that overlap, and at most 64. -/
abbrev PageSound (page : List Booking) : Prop :=
  page.Pairwise (fun a b => a.before b = true ∧ a.id ≠ b.id ∧ overlapsBooking a b = false) ∧ page.length ≤ 64

/-- The loaded tables are as their chapters state. -/
abbrev TablesSound (s : State) : Prop :=
  PointsSound s ∧ OutputsSound s ∧ PageSound s.pageA ∧ PageSound s.pageB

/-! ### Zones, groups and air (R60, R66, R132) -/

/-- R60: the configuration of a present zone is in range. -/
abbrev ConfigSound (s : State) (z : Zone) : Prop := ∀ c ∈ s.zones[z], c.inRange = true

/-- R60: present zones run without a gap from Z0 upward. -/
abbrev NoGap (s : State) : Prop := ∀ k : Fin 3, present s k.succ = true → present s k.castSucc = true

/-- R60, R132: every present zone's D_out lies within 0 to D_max. -/
abbrev AirSound (s : State) : Prop := ∀ z : Zone, ∀ c ∈ s.zones[z], s.air[z].dOut ≤ c.dMax

/-- R66: the group records are the maximal runs of adjacent present zones joined by effectively open partitions, each under
its leader. -/
abbrev GroupsSound (s : State) : Prop :=
  ∀ z : Zone, s.groups[z].map (·.members) = (groupRuns s).find? (fun run => run.head? == some z)

/-- R67: a group's presentation flag says whether a member's projector is on. -/
abbrev PresentationSound (s : State) : Prop :=
  ∀ z : Zone, ∀ g ∈ s.groups[z], g.presentation = g.members.any fun y => projectorOn s y

/-- R94, R95: a group's booking list holds the active booking of each member's view. -/
abbrev BookingListsSound (s : State) : Prop :=
  ∀ l : Zone, ∀ g ∈ s.groups[l], ∀ z ∈ g.members, g.booking.list[z] = s.views[z].active

/-- R60, R66, R67: zones and groups together. -/
abbrev RoomSound (s : State) : Prop :=
  (∀ z : Zone, ConfigSound s z) ∧ NoGap s ∧ GroupsSound s ∧ PresentationSound s

/-! ### Offers (R162, R171, R181, R188) -/

/-- No owner holds a frame that its queue would take: what pends is refused for want of a place or by a DOWN port. -/
abbrev Settled (s : State) : Prop :=
  (∀ d ∈ s.deferred, d.outcome ≠ none → admits d.port false s = false) ∧
  (admits .trunk false s = true →
    (∀ k ∈ allNotices, (s.notice k).pending = false) ∧ ∀ l : Zone, ∀ g ∈ s.groups[l], g.reportPending = false) ∧
  (admits .room false s = true →
    (∀ d ∈ s.drive, d.queued = true) ∧ ∀ e ∈ s.outputs, eligible s e = false)

/-- R10, R14: a port has only taken own frames of the device behind those it held. -/
abbrev OwnAppended (q r : LinePort) : Prop :=
  ∃ fs : List Queued, r.queue = q.queue ++ fs ∧ ∀ e ∈ fs, e.relayed = false ∧ e.sending = false

/-- A group record apart from its report mark. -/
def Group.unmarked (g : Group) : Group := { g with reportPending := false }

/-- The fields that offers do not touch at all. -/
def OffersFrame (s t : State) : Prop :=
  t = { s with
    room := { s.room with queue := t.room.queue, nextOrder := t.room.nextOrder }
    trunk := { s.trunk with queue := t.trunk.queue, nextOrder := t.trunk.nextOrder }
    outputs := t.outputs
    notices := t.notices
    groups := t.groups
    deferred := t.deferred
    drive := t.drive
    free := t.free }

/-- R117, R162, R171, R181, R188: all that the offers which end an event can have done between two states. -/
structure Offered (s t : State) : Prop where
  frame : OffersFrame s t
  room : OwnAppended s.room t.room
  trunk : OwnAppended s.trunk t.trunk
  outputs : ∀ i, findOutput t i = findOutput s i ∨
    ∃ e n, findOutput s i = some e ∧ eligible s e = true ∧ findOutput t i = some (e.admitted n)
  notices : ∀ k, (t.notice k).flag = (s.notice k).flag ∧ (t.notice k).detail = (s.notice k).detail
  groups : ∀ z : Zone, t.groups[z].map Group.unmarked = s.groups[z].map Group.unmarked
  drive : t.drive.map (·.frame) = s.drive.map (·.frame)
  deferred : t.deferred = s.deferred ∨ t.deferred = none

/-- A command ends in a state, but for the offers that end its event; in just that state where it leaves nothing to offer. -/
abbrev EndsIn (c : Instr) (s u : State) : Prop :=
  ∃ t, exec c s = .next t ∧ Offered u t ∧ (Settled u → t = u)

/-! ### Arrivals (R6, R185) -/

/-- A port receives bytes that are a good frame. -/
abbrev Receives (p : Port) (bytes : List Byte) (f : Frame) (s : State) : Prop :=
  receiving p s = true ∧ Frame.decode bytes = some f

/-- R185: what a good frame has done when its handling begins: no pin is driven and the match units have been shown it. -/
def arrivedAt (p : Port) (f : Frame) (s : State) : State := showFrame false p f (clearPins s)

/-- R185, R186: all that showing a frame to the match units can touch. -/
def ShownFrame (s t : State) : Prop :=
  t = { s with
    notices := t.notices
    hold := t.hold
    matchUnits := t.matchUnits
    captures := t.captures
    overflow := t.overflow }

/-- R185: an enabled match unit whose side takes the port matches a frame by its point or its origin. -/
abbrev MatchUnit.Takes (m : MatchUnit) (p : Port) (f : Frame) : Prop :=
  m.enable = true ∧ (m.side = .either ∨ (m.side = .room ∧ p = .room) ∨ (m.side = .trunk ∧ p = .trunk)) ∧
    if m.onOrigin then f.originLine.toNat * 256 + f.originNode.toNat = m.value
    else f.kind ≠ .manage ∧ f.kind ≠ .manageReply ∧ f.target.toNat = m.value

/-- R186: the records a frame makes, one for each unit that takes it, in ascending unit number. -/
def recordsMade (transmitted : Bool) (p : Port) (f : Frame) (s : State) : List CaptureRecord :=
  ((List.finRange 5).filter fun u => decide ((s.matchUnits[u]).Takes p f)).map fun u =>
    { transmitted, port := p, frame := { f with value := f.value.take 8 }, length := f.value.length, time := s.clock
      unit := u.val + 1 }

/-- R183, R185, R186: what the match units have done between two states with one frame they were shown. -/
structure UnitsShown (transmitted : Bool) (p : Port) (f : Frame) (s t : State) : Prop where
  hits : ∀ u : Fin 5, t.matchUnits[u] =
    if (s.matchUnits[u]).Takes p f then { s.matchUnits[u] with hits := min 65535 ((s.matchUnits[u]).hits + 1) }
    else s.matchUnits[u]
  captures : t.captures = (s.captures ++ recordsMade transmitted p f s).take 32
  overflow : t.overflow = min 255 (s.overflow + (s.captures.length + (recordsMade transmitted p f s).length - 32))
  overflowNotice : 32 < s.captures.length + (recordsMade transmitted p f s).length →
    ∀ u : Fin 5, (s.matchUnits[u]).Takes p f → (∀ v : Fin 5, (s.matchUnits[v]).Takes p f → v ≤ u) →
      (t.notice .captureOverflow).flag = true ∧
        (t.notice .captureOverflow).detail = some (BitVec.ofNat 8 (u.val + 1) ++ (0 : BitVec 16))
  hold : t.hold = true ↔ s.hold = true ∨ ∃ u : Fin 5, (s.matchUnits[u]).Takes p f ∧ (s.matchUnits[u]).hold = true
  holdNotice : s.hold = false →
    ∀ u : Fin 5, (s.matchUnits[u]).Takes p f ∧ (s.matchUnits[u]).hold = true →
      (∀ v : Fin 5, (s.matchUnits[v]).Takes p f ∧ (s.matchUnits[v]).hold = true → u ≤ v) →
      (t.notice .holdEntered).flag = true ∧
        (t.notice .holdEntered).detail = some (BitVec.ofNat 8 (u.val + 1) ++ (0 : BitVec 16))

/-- R27: a good frame of a point kind that its arrival port's entry lists. -/
abbrev Listed (p : Port) (f : Frame) (e : PointEntry) (s : State) : Prop :=
  f.kind.isPoint = true ∧ ¬(f.kind = .query ∧ isReportPoint s f.target = true) ∧ findPoint s f.target = some e ∧
    e.side = p

/-- R23, R27, R30, R31, R33, R34: the value of a good frame reaches the evidence unit through the entry of a role that lists
it: TAKE or COPY, a length that fits, no QUERY, and a COMMAND that is new and, under COPY, not turned away for want of relay
room. -/
abbrev Consumes (p : Port) (bytes : List Byte) (f : Frame) (e : PointEntry) (r : Role) (s : State) : Prop :=
  Receives p bytes f s ∧ Listed p f e s ∧ (e.disposition = .take ∨ e.disposition = .copy) ∧ e.role = some r ∧
  lengthFits r e.attachment f.value.length = true ∧ f.kind ≠ .query ∧
  (f.kind = .command → e.lastCommand ≠ some ⟨f.originLine, f.originNode, f.toggle⟩ ∧
    ¬(e.disposition = .copy ∧ f.hop ≠ 0 ∧ (s.port (otherPort p)).up = true ∧ admits (otherPort p) true s = false))

/-- R10, R15, R29, R36: what the relay of a frame that arrived on a port leaves: nothing where none is possible; its copy
behind the other port's queue where that has relay room; else BUSY, or one more dropped frame. -/
def relayedAcross (p : Port) (f : Frame) (target : PointCode) (owner : Owner) (confirmed : Bool) (u : State) : State :=
  let r := otherPort p
  let q := u.port r
  let copy : Frame := { f with hop := f.hop - 1, target := target, spare := 0 }
  if f.hop = 0 ∨ q.up = false then u
  else if q.queue.length < capacity r ∧ (q.queue.filter (·.relayed)).length < relayShare r then
    let v := u.withPort r (q.enqueue copy owner true)
    if confirmed then answer p (some .ack) v else v
  else if confirmed then answer p (some .busy) u
  else u.withPort r { q with relayDropped := if q.relayDropped < 65535 then q.relayDropped + 1 else q.relayDropped }

/-- R47, R52, R56: an arrival of so many value bytes at an entry reaches a present zone: one of its zone set, or one that a
carried lane names. -/
def PointEntry.reaches (e : PointEntry) (length : Nat) (s : State) (z : Zone) : Prop :=
  present s z = true ∧
  match e.attachment with
  | .zones set => set[z] = true
  | .lanes map => ∃ k : Fin 4, 2 * k.val + 1 < length ∧ map[k] = some z
  | _ => False

/-- All that the consumption of a frame can touch: the entry, what it feeds, and what follows in the room (chapters 3 to 9). -/
def ConsumedFrame (s t : State) : Prop :=
  t = { s with
    room := { s.room with queue := t.room.queue, nextOrder := t.room.nextOrder }
    trunk := { s.trunk with queue := t.trunk.queue, nextOrder := t.trunk.nextOrder }
    points := t.points
    evidence := t.evidence
    partitions := t.partitions
    irradiance := t.irradiance
    overrides := t.overrides
    groups := t.groups
    clock := t.clock
    freeRunning := t.freeRunning
    views := t.views
    mismatch := t.mismatch
    air := t.air
    light := t.light
    sun := t.sun
    outputs := t.outputs
    notices := t.notices
    deferred := t.deferred
    drive := t.drive
    free := t.free }

/-! ### Booking views (R92, R93) -/

/-- R86, R92: a booking of the ACTIVE page that covers a zone has an instance from one wing minute to another. -/
def HasInstance (s : State) (z : Zone) (b : Booking) (start stop : Nat) : Prop :=
  b ∈ (if s.activePage = .a then s.pageA else s.pageB) ∧ b.zones[z] = true ∧
    ∃ d : Fin 7, b.weekdays[d] = true ∧ start = d.val * 1440 + b.start ∧ stop = d.val * 1440 + b.stop

/-- R92, R93: a booking view shows what the ACTIVE page holds for a zone at the current wing minute; nothing while the clock is
UNSET or the zone absent. -/
def ViewShows (s : State) (z : Zone) (v : BookingView) : Prop :=
  match s.clock with
  | none => v = ⟨none, none, none⟩
  | some w =>
    let now := w.weekday * 1440 + w.minute
    let distance := fun start => (start + 10080 - now) % 10080
    if present s z = true then
      (∀ id, v.active = some id → ∃ b start stop, HasInstance s z b start stop ∧ b.id = id ∧ start ≤ now ∧ now < stop) ∧
      (v.active = none → ∀ b start stop, HasInstance s z b start stop → ¬(start ≤ now ∧ now < stop)) ∧
      (∀ x, v.upcoming = some x →
        (∃ b stop, HasInstance s z b x.start stop ∧ b.id = x.id ∧ 1 ≤ distance x.start ∧ distance x.start ≤ b.lead) ∧
        ∀ b start stop, HasInstance s z b start stop → 1 ≤ distance start → distance start ≤ b.lead →
          distance x.start ≤ distance start) ∧
      (v.upcoming = none → ∀ b start stop, HasInstance s z b start stop →
        ¬(1 ≤ distance start ∧ distance start ≤ b.lead)) ∧
      (∀ d, v.toNext = some d → 1 ≤ d ∧ d ≤ s.params.horizon ∧
        (∃ b start stop, HasInstance s z b start stop ∧ distance start = d) ∧
        ∀ b start stop, HasInstance s z b start stop → 1 ≤ distance start → d ≤ distance start) ∧
      (v.toNext = none → ∀ b start stop, HasInstance s z b start stop →
        ¬(1 ≤ distance start ∧ distance start ≤ s.params.horizon))
    else v = ⟨none, none, none⟩

/-! ### Groups, scenes and blinds (R113, R143, R149 to R152) -/

/-- R113: the head count estimate of a group in OCCUPIED: its seat-count sum where it has LIVE counters, else its expected head
count where it is booked, else its members' walk-in head counts, each at most 400. -/
def estimateOf (s : State) (g : Group) : Nat :=
  match seatSum s g.members with
  | some n => n
  | none =>
    min 400 (if g.booked then g.booking.expected else (g.members.map fun z => (s.zones[z].map (·.walkIn)).getD 0).sum)

/-- R140, R143: the selection of a group that is OCCUPIED or in HOLDOVER. -/
def shownScene (s : State) (g : Group) : Selection :=
  let profile := fun n => s.profiles.toList.getD n ⟨0, 0, 0, 0, 0⟩
  let slot := fun n : Nat => if n = 0 then Selection.off else .scene n
  if g.state = .holdover then slot (profile g.booking.profile).dim
  else match g.manualScene with
    | some m => m
    | none =>
      if g.booking.session = some .exam then slot (profile g.booking.profile).exam
      else if g.presentation then slot (profile g.booking.profile).present
      else if g.booked then slot (profile g.booking.profile).arrival
      else slot (profile 0).unbooked

/-- R149: the blind target that the scene in force and the sun state give a zone. -/
def blindGoal (s : State) (z : Zone) (c : ZoneConfig) : Option BlindPosition :=
  if c.facade then
    s.light[z].scene.map fun sel =>
      { height := match (content s sel).height with
          | some h => h
          | none => if s.sun.high then s.params.glareHeight else 0
        slat := match (content s sel).slat with
          | some h => h
          | none => if s.sun.high then s.params.glareSlat else 0 }
  else none

/-- R150, R151: a blind send of a position is made: it is not the one sent, the spacing has ended, and no open window inhibits
it. -/
abbrev SendDue (s : State) (z : Zone) (p : BlindPosition) : Prop :=
  s.light[z].blindSent ≠ some p ∧ (∀ a ∈ s.light[z].lastSend, a + s.params.blindSpacing ≤ s.elapsed) ∧
  (windowOpen s z = true → p.height ≤ (s.light[z].blindSent.map (·.height)).getD 0)

/-- R150, R152: the state after a blind send of a position: height and slat are handed, and the motion end follows from the
travel. -/
def withBlindSend (z : Zone) (p : BlindPosition) (s : State) : State :=
  let r := s.light[z]
  let estimate := match r.blindSent with
    | none => s.params.blindTravel
    | some o => (2 * (s.params.blindTravel * ((p.height : Int) - o.height).natAbs) + 1000) / 2000
  handTo z .blindSlat ⟨p.slat, 0⟩ (handTo z .blindHeight ⟨p.height, 0⟩
    { s with light := s.light.set z { r with
        blindSent := some p
        lastSend := some s.elapsed
        motionEnd := match r.motionEnd with
          | some m => some (max m (s.elapsed + estimate))
          | none => if estimate = 0 then none else some (s.elapsed + estimate) } })

/-- R149, R150: the state after a blind target is formed and the pending send tested. -/
def withBlindGoal (z : Zone) (c : ZoneConfig) (s : State) : State :=
  let u := { s with light := s.light.set z { s.light[z] with blindTarget := blindGoal s z c } }
  match blindGoal s z c with
  | some p => if SendDue u z p then withBlindSend z p u else u
  | none => u

/-- R146, R147: the state after a scene change of a zone: the four channels take their modes and start levels, each is handed
with the content's fade, and the blind target follows. -/
def withScene (z : Zone) (c : ZoneConfig) (sel : Selection) (s : State) : State :=
  let k := content s sel
  let lit := { s with light := s.light.set z { s.light[z] with
    scene := some sel
    modes := #v[k.channels[0].isDaylight, k.channels[1].isDaylight, k.channels[2].isDaylight, k.channels[3].isDaylight]
    levels := #v[k.channels[0].startLevel, k.channels[1].startLevel, k.channels[2].startLevel, k.channels[3].startLevel]
    fadeEnd := some (s.elapsed + k.fade) } }
  withBlindGoal z c
    (handTo z .lightBoard ⟨k.channels[3].startLevel, k.fade⟩ (handTo z .lightCorridor ⟨k.channels[2].startLevel, k.fade⟩
      (handTo z .lightMiddle ⟨k.channels[1].startLevel, k.fade⟩
        (handTo z .lightWindow ⟨k.channels[0].startLevel, k.fade⟩ lit))))

/-! ### What follows a group (R97, R114, R117, R122, R144) -/

/-- R143: the selection of a group. -/
def sceneDue (s : State) (g : Group) : Selection :=
  if g.state = .occupied ∨ g.state = .holdover then shownScene s g else .off

/-- R134, R136: the thermal modes a group's state can give a zone; PROTECT is the window dwell's. -/
def Occupancy.allows (st : Occupancy) (m : Thermal) : Prop :=
  m = .protect ∨ match st with
    | .occupied | .holdover | .expected | .prepare => m = .comfort
    | .noShow => m = .standby
    | .vacant => m = .standby ∨ m = .economy

/-- R161: the quantity an entry has been handed by its unit; a blind's is handed at a send only. -/
def handedQuantity (s : State) (z : Zone) : OutFunction → Option Nat
  | .airflow => s.air[z].command
  | .thermalMode => s.air[z].thermal.map fun m => match m with
    | .comfort => 0
    | .standby => 1
    | .economy => 2
    | .protect => 3
  | .lightWindow => some s.light[z].levels[0]
  | .lightMiddle => some s.light[z].levels[1]
  | .lightCorridor => some s.light[z].levels[2]
  | .lightBoard => some s.light[z].levels[3]
  | .blindHeight | .blindSlat => none

/-- R114, R122, R133, R135, R143, R144, R147: the units have taken every group change. A group out of OCCUPIED and HOLDOVER
holds no manual scene; each member shows the group's selection, has the thermal mode its state gives, and in VACANT and
NO_SHOW neither integrator nor LIMITED flag and the unoccupied target; each entry holds what its unit holds. -/
structure UnitsFollow (s : State) : Prop where
  manual : ∀ l : Zone, ∀ g ∈ s.groups[l], g.state ≠ .occupied → g.state ≠ .holdover → g.manualScene = none
  scene : ∀ l : Zone, ∀ g ∈ s.groups[l], ∀ z ∈ g.members, s.light[z].scene = some (sceneDue s g)
  thermal : ∀ l : Zone, ∀ g ∈ s.groups[l], ∀ z ∈ g.members, ∃ m, s.air[z].thermal = some m ∧ g.state.allows m
  unoccupied : ∀ l : Zone, ∀ g ∈ s.groups[l], g.state = .vacant ∨ g.state = .noShow → ∀ z ∈ g.members,
    s.air[z].integrator = 0 ∧ s.air[z].limited = false ∧ ∀ c ∈ s.zones[z], s.air[z].dTarget = some c.dMinUnocc
  handed : ∀ e ∈ s.outputs, present s e.zone = true → e.function ≠ .blindHeight → e.function ≠ .blindSlat →
    e.computed.map (·.quantity) = handedQuantity s e.zone e.function

/-- R122, R125: the air record of a zone is what a prompt evaluation of the zone as it stands makes of some record. -/
def Evaluated (s : State) (z : Zone) : Prop :=
  ∃ (c : ZoneConfig) (l : Zone) (g : Group) (r : AirRecord), s.zones[z] = some c ∧ groupOf s z = some (l, g) ∧
    s.air[z] = airStages { s with air := s.air.set z r } false z c g

/-- R116, R117: a group record gives another report than one before it. -/
def Group.reportsOtherThan (h g : Group) : Prop :=
  h.state ≠ g.state ∨ h.members ≠ g.members ∨ h.headCount ≠ g.headCount ∨ h.reportedBooking ≠ g.reportedBooking ∨
    h.effOverride ≠ g.effOverride

/-- R97: the present zones of a set do not all belong to one group. -/
def SpansGroups (s : State) (set : PerZone Bool) : Prop :=
  ∃ y z : Zone, set[y] = true ∧ set[z] = true ∧ present s y = true ∧ present s z = true ∧
    (groupOf s y).map (·.1) ≠ (groupOf s z).map (·.1)

/-- R97: what the mismatch set holds after a recomputation, and the notice it raises; `old` is the set and `before` the notice
before it. Of several ids that enter, any may be the detail (log 8). -/
structure MismatchAfter (old : List Nat) (before : Notice) (t : State) : Prop where
  holds : ∀ id, id ∈ t.mismatch ↔
    (∃ z : Zone, present t z = true ∧ (t.views[z].active = some id ∨ t.views[z].upcoming.map (·.id) = some id)) ∧
      ∃ b, findBooking (if t.activePage = .a then t.pageA else t.pageB) id = some b ∧ SpansGroups t b.zones
  once : t.mismatch.Nodup
  raised : (∃ id ∈ t.mismatch, id ∉ old) → (t.notice .partitionMismatch).flag = true ∧
    ∃ id ∈ t.mismatch, id ∉ old ∧ (t.notice .partitionMismatch).detail = some (BitVec.ofNat 16 id ++ (0 : BitVec 8))
  kept : (∀ id ∈ t.mismatch, id ∈ old) →
    (t.notice .partitionMismatch).flag = before.flag ∧ (t.notice .partitionMismatch).detail = before.detail

/-! ### The tick of the elapsed second (R80, R103, R111; log 3) -/

/-- Log 3: the commands that take what a second has made due, in the order in which the next tick takes what is left. -/
def leftCommands (s : State) : List Instr :=
  .minuteBoundary :: s.points.map (fun e => .silenceExpiry e.code)
    ++ allZones.flatMap (fun z => [.overrideExpiry z, .holdoverExpiry z, .noShowExpiry z, .quietTimeExpiry z])
    ++ allZones.map .windowDwell ++ allZones.map .periodicEvaluation ++ allZones.map .lightTick
    ++ allZones.map .spacingEnd ++ s.outputs.flatMap fun e => [.backoffEnd e.index, .reattempt e.index, .refresh e.index]

/-- The state after commands taken one after the other. -/
def afterAll : List Instr → State → State
  | [], s => s
  | c :: cs, s =>
    match exec c s with
    | .next t => afterAll cs t
    | _ => s

/-- R103, R104, R106, R108: an expiry of the opcode table is reached in a tick of a group at a second. -/
def ExpiresAt (s : State) (g : Group) (second : Nat) : Prop :=
  (∃ z ∈ g.members, ∃ d ∈ s.overrides[z].expiry, d ≤ second) ∨
  (g.effOverride = .auto ∧
    ((g.state = .holdover ∧ ∃ d ∈ g.holdoverDeadline, d ≤ second) ∨
     (g.state = .expected ∧ ∃ d ∈ g.noShowDeadline, d ≤ second) ∨
     (g.state = .occupied ∧ (seatSum s g.members).getD 0 = 0 ∧ examHolds s g = false ∧ ∃ p ∈ g.lastPresence,
       p + (if seatSum s g.members = some 0 then s.params.quietTimeCounted else s.params.quietTime) ≤ second)))

/-! ### Fields of a reply (R173) -/

/-- R173: the 4-byte quantity at a place. -/
def u32 (b : List Byte) (i : Nat) : Nat := u16 b i * 65536 + u16 b (i + 2)

/-- R173: an optional elapsed second stands at a place of a reply; all bits 1 for none (one that does not fit, log 16). -/
def SecondAt (b : List Byte) (i : Nat) : Option Nat → Prop
  | some n => n < 4294967295 → u32 b i = n
  | none => u32 b i = 4294967295

/-- R173: an optional 16-bit field stands at a place of a reply; 65535 for none. -/
def FieldAt (b : List Byte) (i : Nat) (v : Option Nat) : Prop := u16 b i = v.getD 65535 % 65536

/-- R173: an optional byte stands at a place of a reply; 255 for none. -/
def ByteAt (b : List Byte) (i : Nat) (v : Option Nat) : Prop := u8 b i = v.getD 255 % 256

/-- R157, R173: an optional value of an entry stands at a place of READ_OUTPUT's reply: its value bytes, first byte 255 for
none. -/
def ValueAt (b : List Byte) (i : Nat) (f : OutFunction) : Option OutValue → Prop
  | some v =>
    match f with
    | .airflow | .blindHeight | .blindSlat => u16 b i = v.quantity % 65536
    | .thermalMode => u8 b i = v.quantity % 256
    | .lightWindow | .lightMiddle | .lightCorridor | .lightBoard =>
      u16 b i = v.quantity % 65536 ∧ u8 b (i + 2) = v.fade % 256
  | none => u8 b i = 255

/-! ### Requests (R169, R171) -/

/-- R185: what the arrival of a request's frame leaves for the responder. -/
def arrivedBy (rq : Requester) (value : List Byte) (s : State) : State :=
  arrivedAt rq.port (requestFrame rq value s) s

/-- R169: the hypotheses under which a request is accepted: its port receives, its frame is good, tests 1 to 3 of R169 pass.
Test 1 meets the mode that the frame's own arrival leaves (R185). -/
abbrev Accepted (rq : Requester) (value : List Byte) (s : State) : Prop :=
  receiving rq.port s = true ∧ carriable rq value = true ∧
  (rq.port = .room → (arrivedBy rq value s).hold = true ∨ valueCode value = 24) ∧
  s.lastRequester ≠ some ⟨rq.line, rq.node, rq.toggle⟩ ∧ (s.port rq.port).queue.length < capacity rq.port

/-- R169: what arrival and acceptance alone leave: the match units' work, the ACK in the slot and the last requester. -/
def acceptedBy (rq : Requester) (value : List Byte) (s : State) : State := accept rq (arrivedBy rq value s)

/-- R171: the MANAGE_REPLY to a requester, field by field. -/
def replyFields (rq : Requester) (code : Byte) (r : Result) (data : List Byte) (s : State) : Frame where
  priority := rq.priority
  kind := .manageReply
  hop := 6
  originLine := s.address.trunkLine
  originNode := s.address.node
  target := rq.line ++ rq.node
  toggle := false
  spare := 0
  value := code :: r.code :: data

/-- R171: the state with the reply admitted to the queue of the request's port. -/
def withReply (rq : Requester) (code : Byte) (r : Result) (data : List Byte) (s : State) : State :=
  s.withPort rq.port ((s.port rq.port).enqueue (replyFields rq code r data s) .reply false)

/-- R171: the reply waits in the queue of the request's port. -/
abbrev Replied (rq : Requester) (code : Byte) (r : Result) (data : List Byte) (s : State) : Prop :=
  ∃ q ∈ (s.port rq.port).queue, q.owner = .reply ∧ q.relayed = false ∧ q.sending = false ∧
    q.frame = replyFields rq code r data s

/-- What the host has loaded: the static part of the point and outbound tables, the zones, both pages, scenes, profiles and
parameters. -/
def State.loaded (s : State) : List PointEntry × List OutEntry × PerZone (Option ZoneConfig) × List Booking ×
    List Booking × Vector (Option Scene) 16 × Vector Profile 8 × Params :=
  (s.points.map PointEntry.fresh, s.outputs.map OutEntry.restart, s.zones, s.pageA, s.pageB, s.scenes, s.profiles,
    s.params)

/-! ### Frames of whole events -/

/-- What an event of the zone engine, the timetable or the occupancy logic can touch; everything else stays. -/
def RoomFrame (s t : State) : Prop :=
  t = { s with
    room := { s.room with queue := t.room.queue, nextOrder := t.room.nextOrder }
    trunk := { s.trunk with queue := t.trunk.queue, nextOrder := t.trunk.nextOrder }
    pins := t.pins
    evidence := t.evidence
    overrides := t.overrides
    groups := t.groups
    views := t.views
    mismatch := t.mismatch
    air := t.air
    light := t.light
    outputs := t.outputs
    notices := t.notices
    deferred := t.deferred
    drive := t.drive
    due := t.due
    free := t.free }

/-- What the end of a transmission can touch (R13 and the owners of R14); everything else stays. -/
def OutcomeFrame (s t : State) : Prop :=
  t = { s with
    room := { s.room with queue := t.room.queue, nextOrder := t.room.nextOrder }
    trunk := { s.trunk with queue := t.trunk.queue, nextOrder := t.trunk.nextOrder }
    pins := t.pins
    outputs := t.outputs
    notices := t.notices
    groups := t.groups
    deferred := t.deferred
    drive := t.drive
    driveToggle := t.driveToggle
    hold := t.hold
    matchUnits := t.matchUnits
    captures := t.captures
    overflow := t.overflow
    free := t.free }

/-- R67, R68, R119, R120, R141: what a soft reset leaves of a present zone: a group of its own that has taken the zone's kept
booking view, its report, an evaluation from the starting air record, and a scene change to OFF from the starting light
record, with the blinds of a facade zone sent to 0. -/
structure RebuiltAlone (s t : State) (z : Zone) (c : ZoneConfig) (h : Group) : Prop where
  record : h.unmarked =
    { members := [z]
      state := if s.views[z].active ≠ none then .expected else if s.views[z].upcoming ≠ none then .prepare else .vacant
      effOverride := .auto
      overrideExpiry := none
      booking := h.booking
      attended := false
      pendingSince := none
      lastPresence := none
      holdoverDeadline := none
      noShowDeadline := if s.views[z].active ≠ none then some (s.elapsed + s.params.noShowLimit) else none
      headCount := 0
      manualScene := none
      presentation := false
      reportPending := false }
  booking : (∀ y : Zone, h.booking.list[y] = if y = z then s.views[z].active else none) ∧
    h.booking.upcoming = s.views[z].upcoming
  report : h.reportPending = true ∨ ∃ q ∈ t.trunk.queue, q.owner = .report z ∧ q.frame = reportFrame t z h
  air : t.air[z] = airStages { t with air := t.air.set z (AirRecord.reset s.params.rStep) } false z c h
  light : t.light[z] =
    { scene := some .off
      modes := Vector.replicate 4 false
      levels := Vector.replicate 4 0
      fadeEnd := some s.elapsed
      blindTarget := if c.facade then some ⟨0, 0⟩ else none
      blindSent := if c.facade then some ⟨0, 0⟩ else none
      lastSend := if c.facade then some s.elapsed else none
      motionEnd :=
        if c.facade ∧ s.params.blindTravel ≠ 0 then some (s.elapsed + s.params.blindTravel) else none }

/-- R18, R178 and the reset rule of each chapter: what a soft reset of a cause leaves. -/
structure SoftResetLeft (cause : BitVec 8) (s t : State) : Prop where
  kept : t.loaded = s.loaded ∧ t.activePage = s.activePage ∧ t.address = s.address ∧ t.hold = s.hold ∧
    t.elapsed = s.elapsed ∧ t.clock = s.clock ∧ t.freeRunning = s.freeRunning ∧ t.views = s.views
  ports : t.room.up = s.room.up ∧ t.trunk.up = s.trunk.up ∧ t.room.checkErrors = 0 ∧ t.trunk.checkErrors = 0 ∧
    t.room.relayDropped = 0 ∧ t.trunk.relayDropped = 0 ∧
    (∀ q ∈ t.room.queue ++ t.trunk.queue, q.relayed = false ∧ q.sending = false)
  points : t.points = s.points.map fun e =>
    { e.fresh with
      deadline := if s.hold || e.silenceLimit == 0 then none else some (s.elapsed + e.silenceLimit) }
  room : (∀ p : Fin 3, t.partitions[p] = none) ∧ t.irradiance = none ∧ t.sun = ⟨false, none, none⟩ ∧
    ∀ z : Zone, t.overrides[z] = ⟨.auto, none⟩ ∧ t.evidence[z] = ⟨none, none, none⟩
  outputs : ∀ e ∈ t.outputs, e.toggle = false ∧ e.exposed = false ∧ e.confirmed = none ∧ e.next = none ∧
    e.retries = 0 ∧ e.busies = 0 ∧ e.timer = none
  responder : t.lastRequester = none ∧ t.deferred = none ∧ t.drive = none ∧ t.driveToggle = false
  commissioning : t.captures = [] ∧ t.overflow = 0 ∧ ∀ u : Fin 5, t.matchUnits[u] = { s.matchUnits[u] with hits := 0 }
  mismatch : MismatchAfter [] ⟨false, none, false⟩ t
  absent : ∀ z : Zone, present s z = false →
    t.groups[z] = none ∧ t.air[z] = AirRecord.reset s.params.rStep ∧ t.light[z] = LightRecord.reset
  rebuilt : ∀ (z : Zone) (c : ZoneConfig), s.zones[z] = some c → ∃ h, t.groups[z] = some h ∧ RebuiltAlone s t z c h
  started : (t.notice .started).flag = true ∧ (t.notice .started).detail = some (cause ++ (0 : BitVec 16)) ∧
    (s.trunk.up = true → ∃ fs, t.trunk.queue =
      ⟨noticeFrame t .started, .notice .started, false, s.trunk.nextOrder, false⟩ :: fs)

end Sys2Proof.Machine

namespace Sys2Proof

open Machine

/-! ### Kinds of command -/

/-- R172: the requester of a request command and the value of its MANAGE frame. -/
def Instr.requestOf : Instr → Option (Requester × List Byte)
  | .unknownRequest rq value => some (rq, value)
  | .describe rq args => some (rq, 1 :: args)
  | .readStatus rq args => some (rq, 2 :: args)
  | .loadPoint rq args => some (rq, 3 :: args)
  | .deletePoint rq args => some (rq, 4 :: args)
  | .readPoint rq args => some (rq, 5 :: args)
  | .loadZone rq args => some (rq, 6 :: args)
  | .readZone rq args => some (rq, 7 :: args)
  | .loadOutput rq args => some (rq, 8 :: args)
  | .deleteOutput rq args => some (rq, 9 :: args)
  | .readOutput rq args => some (rq, 10 :: args)
  | .loadBooking rq args => some (rq, 11 :: args)
  | .clearStandby rq args => some (rq, 12 :: args)
  | .swapPages rq args => some (rq, 13 :: args)
  | .readBooking rq args => some (rq, 14 :: args)
  | .loadScene rq args => some (rq, 15 :: args)
  | .loadProfile rq args => some (rq, 16 :: args)
  | .setParameter rq args => some (rq, 17 :: args)
  | .readParameter rq args => some (rq, 18 :: args)
  | .setOverride rq args => some (rq, 19 :: args)
  | .readNotices rq args => some (rq, 20 :: args)
  | .clearNotices rq args => some (rq, 21 :: args)
  | .setMatch rq args => some (rq, 22 :: args)
  | .readCapture rq args => some (rq, 23 :: args)
  | .hold rq args => some (rq, 24 :: args)
  | .resume rq args => some (rq, 25 :: args)
  | .drivePoint rq args => some (rq, 26 :: args)
  | .roomReset rq args => some (rq, 27 :: args)
  | .softReset rq args => some (rq, 28 :: args)
  | _ => none

/-- R172: the command of the value of a MANAGE frame. -/
def requestCommand (rq : Requester) (value : List Byte) : Instr :=
  match (valueCode value).toNat with
  | 1 => .describe rq value.tail
  | 2 => .readStatus rq value.tail
  | 3 => .loadPoint rq value.tail
  | 4 => .deletePoint rq value.tail
  | 5 => .readPoint rq value.tail
  | 6 => .loadZone rq value.tail
  | 7 => .readZone rq value.tail
  | 8 => .loadOutput rq value.tail
  | 9 => .deleteOutput rq value.tail
  | 10 => .readOutput rq value.tail
  | 11 => .loadBooking rq value.tail
  | 12 => .clearStandby rq value.tail
  | 13 => .swapPages rq value.tail
  | 14 => .readBooking rq value.tail
  | 15 => .loadScene rq value.tail
  | 16 => .loadProfile rq value.tail
  | 17 => .setParameter rq value.tail
  | 18 => .readParameter rq value.tail
  | 19 => .setOverride rq value.tail
  | 20 => .readNotices rq value.tail
  | 21 => .clearNotices rq value.tail
  | 22 => .setMatch rq value.tail
  | 23 => .readCapture rq value.tail
  | 24 => .hold rq value.tail
  | 25 => .resume rq value.tail
  | 26 => .drivePoint rq value.tail
  | 27 => .roomReset rq value.tail
  | 28 => .softReset rq value.tail
  | _ => .unknownRequest rq value

/-- R6, R11, R37: the port and the good frame that a command brings to a receiving port: as bytes, as the winner of an
arbitration, or as the MANAGE frame of a request. -/
def Instr.brings (c : Instr) (s : State) : Option (Port × Frame) :=
  match c with
  | .frameArrival p bytes begun =>
    if receiving p s = true ∧ begun = (s.port p).cuts then (Frame.decode bytes).map fun f => (p, f) else none
  | .arbitrationLost p ⟨winner, begun⟩ =>
    match sendingOf (s.port p).queue with
    | some q =>
      if losesTo q.frame.encode winner = true ∧ receiving p s = true ∧ begun = (s.port p).cuts then
        (Frame.decode winner).map fun f => (p, f)
      else none
    | none => none
  | c =>
    match c.requestOf with
    | some (rq, value) =>
      if receiving rq.port s = true ∧ carriable rq value = true then some (rq.port, requestFrame rq value s) else none
    | none => none

/-- R13, R185: the port and the frame that a command shows to the match units: one it brings, or one transmitted to its end. -/
def Instr.shows (c : Instr) (s : State) : Option (Port × Frame) :=
  match c with
  | .transmissionOutcome p _ => (sendingOf (s.port p).queue).map fun q => (p, q.frame)
  | c => c.brings s

/-- R37, R172: the request code of the MANAGE frame to the device that a command brings. -/
def Instr.requests (c : Instr) (s : State) : Option Nat :=
  match c.brings s with
  | some (_, f) => if f.kind = .manage ∧ forDevice s f = true then some (valueCode f.value).toNat else none
  | none => none

/-- R172: the request codes that change what the host has loaded. -/
def loadingCodes : List Nat := [3, 4, 6, 8, 9, 11, 12, 15, 16, 17]

end Sys2Proof
end

