-- ==== Sys2Proof/Certificates/Slice0/Obligations.lean ====
section
/-! DEFINITION. The statements for the provers, from the numbered rules of spec/: the step, the invariants every step keeps,
whole-machine rules, frames on the line, ports, transmissions, offers, time, and the requests. -/

open Sys2Proof Sys2Proof.Machine

/-- 95_what_each_step_holds.md. When c is at the front of the queue of waiting commands, the step is exec of c on the
state with the queue's rest. With nothing waiting, the step answers the same state. The queue is the model's
interface; that the device idles on an empty queue is the model's choice (log 2). -/
def Obligations.StepTakesTheFrontCommand : Prop :=
  (∀ (c : Instr) (rest : List Instr) (s : State), s.pending = c :: rest → step s = exec c { s with pending := rest }) ∧
  ∀ s : State, s.pending = [] → step s = .next s

/-- 95_what_each_step_holds.md, 01_field_lines_frames_and_transmit_queues.md, R80. For every command and every state,
exec answers a next state (no fault, no refusal); the waiting commands are left as they were, and the elapsed-second
count is one more for ELAPSED_SECOND_TICK, 0 for POWER_ON_RESET, and unchanged for every other command, soft resets
and room resets included. The spec describes no event that stops the device: errors are counts, result codes, answers
in the slot and notices. -/
def Obligations.EveryCommandCompletesAndOnlyTheTickCountsTheSecond : Prop :=
  ∀ (c : Instr) (s : State), ∃ t, exec c s = .next t ∧ t.pending = s.pending ∧
    t.elapsed = (match c with
      | .elapsedSecondTick => s.elapsed + 1
      | .powerOnReset _ _ _ => 0
      | _ => s.elapsed)

/-- R10, R19, R20, R21, R66, R87, R94, R132, R144, R157. State.reset meets the invariants of the transmit queues, the
counts, the tables, the zones and groups, their booking lists, the airflow, and of the units that follow the groups,
and has nothing left to offer. (The straps of State.reset are the model's choice, log 1; no clause rests on them.) -/
def Obligations.ResetMeetsTheInvariants : Prop :=
  QueuesSound State.reset ∧ CountsSound State.reset ∧ TablesSound State.reset ∧ RoomSound State.reset ∧ BookingListsSound State.reset ∧
    AirSound State.reset ∧ UnitsFollow State.reset ∧ Settled State.reset

/-- R1, R2, R10, R11. If both transmit queues hold at most their capacity (24 and 16) with at most their relay share
(16 and 12) of relayed frames, carry rising orders of admission below the next one, have at most one SENDING frame,
and are empty while their port is DOWN, then so do they after any step that answers a next state. -/
def Obligations.StepKeepsTransmitQueuesSound : Prop :=
  ∀ s t : State, QueuesSound s → step s = .next t → QueuesSound t

/-- R19, R81, R185, R186. If check_errors and relay_dropped of both ports and the hit counts of all match units are at
most 65535, the overflow count at most 255 and the capture queue at most 32 records, and wing time, where the clock is
SET, has a weekday up to 6, a minute up to 1439 and a second up to 59, then so they are after any step. -/
def Obligations.StepKeepsCountsInRange : Prop :=
  ∀ s t : State, CountsSound s → step s = .next t → CountsSound t

/-- R21, R24, R87, R88, R157. If the point table is in ascending code order with at most 384 entries, the outbound
table in ascending index order, and each page in its order with no id twice, no two overlapping bookings and at most
64 bookings, then so are they after any step. -/
def Obligations.StepKeepsTablesOrdered : Prop :=
  ∀ s t : State, TablesSound s → step s = .next t → TablesSound t

/-- R53, R60, R61, R64, R66, R67, R68, R69, R72, R73, R94, R95. If every present zone's record is in range, present
zones run from Z0 upward without a gap, and there is one group record for each maximal run of adjacent present zones
joined by effectively open partitions, under the run's lowest zone, whose presentation flag says whether a member's
projector is on, then all of this holds after any step (arrivals that merge or split groups, loads, removals and
resets included). If every group's booking list holds the active booking of each member's view, then so it does after
any step. -/
def Obligations.StepKeepsRoomSound : Prop :=
  ∀ s t : State, step s = .next t → (RoomSound s → RoomSound t) ∧ (BookingListsSound s → BookingListsSound t)

/-- R60, R128, R131, R132. If every present zone's record is in range and every present zone's D_out is at most its
D_max, then after any step every present zone's D_out is at most its D_max. -/
def Obligations.StepKeepsAirflowInRange : Prop :=
  ∀ s t : State, (∀ z : Zone, ConfigSound s z) → AirSound s → step s = .next t → AirSound t

/-- R13, R117, R162, R171, R181, R188. If the outbound table is in index order and nothing is left to offer (every
deferred reply, pending notice, pending report, waiting drive and eligible entry is refused for want of a place or by
a DOWN port), then the same holds after any step. That offers are made in one pass at the end of every event is the
model's choice (log 6). -/
def Obligations.StepLeavesNothingToOffer : Prop :=
  ∀ s t : State, OutputsSound s ∧ Settled s → step s = .next t → OutputsSound t ∧ Settled t

/-- R114, R122, R130, R131, R133, R134, R143, R144, R147, R161. With the room sound. The units have taken every group
change before a command and after it: a group out of OCCUPIED and HOLDOVER holds no manual scene; every member's scene
in force is the group's selection (OFF out of those states, the DIM slot in HOLDOVER, and in OCCUPIED the manual scene
or the slot that R143 gives from the booking, the presentation and the profiles as they stand); its thermal mode is
one that the group's state gives, or PROTECT; in VACANT and NO_SHOW its integrator is 0, LIMITED clear and the target
D_min_unocc; and each entry of a present zone holds, as its computed value, the airflow command, the thermal mode or
the channel level that the zone's records hold (a blind's is left out). So no state in between is ever read: a change
of state, booking or presentation, a merge, a split, a rebuild and a loaded profile are all handed on within their
command. -/
def Obligations.StepKeepsUnitsFollowingTheirGroups : Prop :=
  ∀ s t : State, RoomSound s ∧ UnitsFollow s → step s = .next t → UnitsFollow t

/-- R169, R183, R185. If the mode differs after a command, then either the device went from RUN to HOLD, and the
command was a POWER_ON_RESET, brought a MANAGE frame to the device with request code 24 (HOLD), or showed the match
units a frame that a CAPTURE_HOLD unit takes; or it went from HOLD to RUN, and the command brought a MANAGE frame to
the device with request code 25 (RESUME). A frame comes as bytes, as the winner of an arbitration, or as the frame of
a request command. -/
def Obligations.OnlyModeEventsChangeTheMode : Prop :=
  ∀ (c : Instr) (s t : State), exec c s = .next t → t.hold ≠ s.hold →
    (s.hold = false ∧ ((∃ a b n, c = .powerOnReset a b n) ∨ c.requests s = some 24 ∨
      ∃ p f, c.shows s = some (p, f) ∧ ∃ u : Fin 5, (s.matchUnits[u]).Takes p f ∧ (s.matchUnits[u]).hold = true)) ∨
    (s.hold = true ∧ c.requests s = some 25)

/-- R162, R183, R184. With the outbound table in index order: if after a command an entry is QUEUED and the entry of
its index was not QUEUED before, then the device is in RUN or the run-in-hold flag of its class is 1. -/
def Obligations.HeldClassesAreNotAdmitted : Prop :=
  ∀ (c : Instr) (s t : State) (e : OutEntry), OutputsSound s → exec c s = .next t → e ∈ t.outputs →
    e.state = .queued → (∀ x ∈ s.outputs, x.index = e.index → x.state ≠ .queued) → classRuns t e.function = true

/-- R7, R20, R26, R62, R98, R138, R140, R160, R172, R175, R178. Every command but POWER_ON_RESET leaves the node
address; where a node number of 0 or 255 has both ports DOWN before a command, it has them DOWN after it,
POWER_ON_RESET included. Every command but POWER_ON_RESET that brings no MANAGE frame to the device with a loading
request code (3, 4, 6, 8, 9, 11, 12, 15, 16, 17) leaves the static part of the point and outbound tables, the zone
records, both pages, scenes, profiles and parameters: time, resets, outcomes, reads, commissioning requests and every
other frame leave them. Every command but POWER_ON_RESET that brings no MANAGE frame with code 13 (SWAP_PAGES) leaves
the ACTIVE page. A frame comes as bytes, as the winner of an arbitration, or as the frame of a request command. -/
def Obligations.AddressAndLoadedTablesKeepToTheirCommands : Prop :=
  ∀ (c : Instr) (s t : State), exec c s = .next t →
    (PortsHeldDown s → PortsHeldDown t) ∧
    ((∀ a b n, c ≠ .powerOnReset a b n) →
      t.address = s.address ∧
      ((∀ n ∈ loadingCodes, c.requests s ≠ some n) → t.loaded = s.loaded) ∧
      (c.requests s ≠ some 13 → t.activePage = s.activePage))

/-- R4, R5, R6. For all bytes and every frame: decoding the bytes gives the frame if and only if the frame is good
(length within its kind's limit, origin node and MANAGE target node within 1-254) and the bytes are its header, value
and 16-bit check as R4 and R5 lay them out. So every good frame is read back with every field, and every other byte
string is malformed. -/
def Obligations.FrameEncodingRoundTrip : Prop :=
  ∀ (bytes : List Byte) (f : Frame), Frame.decode bytes = some f ↔ f.good = true ∧ f.encode = bytes

/-- R9. For COMMAND and MANAGE: ACK, NAK or BUSY exactly when the code (6, 21, 19) was heard with its complement, NONE
otherwise (silence, another code, or a wrong complement). For every other kind: DONE. -/
def Obligations.OutcomeFromTheSlot : Prop :=
  ∀ (k : Kind) (heard : Option (Byte × Byte)),
    outcomeOf k heard =
      if k = .command ∨ k = .manage then
        if heard = some (6, ~~~6) then .ack
        else if heard = some (21, ~~~21) then .nak
        else if heard = some (19, ~~~19) then .busy
        else .unheard
      else .done

/-- R7, R20, R26, R63, R80, R82, R98, R138, R140, R157, R182, R183. POWER_ON_RESET answers a next state with the
straps' address, both ports DOWN with empty queues and counts 0, every table empty or at its power-on value, elapsed
second 0, clock UNSET, HOLD, no requester, drive or deferred reply, STARTED set with detail 0 and pending and every
other notice clear. The result depends on the state before only through the waiting commands and the model's own
counters (log 9, log 25). -/
def Obligations.PowerOnResetReturnsEveryState : Prop :=
  ∀ (a b : BitVec 4) (n : Byte) (s : State),
    (∃ t, exec (.powerOnReset a b n) s = .next t ∧
      t.address = ⟨a, b, n⟩ ∧ t.room.up = false ∧ t.trunk.up = false ∧ t.room.queue = [] ∧ t.trunk.queue = [] ∧
      t.room.checkErrors = 0 ∧ t.room.relayDropped = 0 ∧ t.trunk.checkErrors = 0 ∧ t.trunk.relayDropped = 0 ∧
      t.points = [] ∧ t.outputs = [] ∧ t.pageA = [] ∧ t.pageB = [] ∧ t.activePage = .a ∧ t.mismatch = [] ∧
      (∀ z : Zone, t.zones[z] = none ∧ t.groups[z] = none ∧ t.overrides[z] = ⟨.auto, none⟩ ∧
        t.evidence[z] = ⟨none, none, none⟩ ∧ t.views[z] = ⟨none, none, none⟩ ∧ t.air[z] = AirRecord.reset 200 ∧
        t.light[z] = LightRecord.reset) ∧
      (∀ k : Fin 3, t.partitions[k] = none) ∧ t.irradiance = none ∧ t.sun = ⟨false, none, none⟩ ∧
      (∀ k : Fin 16, t.scenes[k] = none) ∧ (∀ k : Fin 8, t.profiles[k] = ⟨0, 0, 0, 0, 0⟩) ∧
      t.params = Params.reset ∧ t.elapsed = 0 ∧ t.clock = none ∧ t.freeRunning = false ∧ t.hold = true ∧
      t.lastRequester = none ∧ t.deferred = none ∧ t.drive = none ∧ t.driveToggle = false ∧ t.captures = [] ∧
      t.overflow = 0 ∧ (∀ u : Fin 5, t.matchUnits[u] = MatchUnit.reset) ∧
      ∀ k, t.notice k = if k = .started then ⟨true, some 0, true⟩ else ⟨false, none, false⟩) ∧
    ∀ s' : State, s'.pending = s.pending → s'.free = s.free → s'.room.cuts = s.room.cuts →
      s'.trunk.cuts = s.trunk.cuts → exec (.powerOnReset a b n) s' = exec (.powerOnReset a b n) s

/-- R1, R3, R7, R181. With a valid node number, LINE_POWER_UP of a DOWN port answers a state in which that port is UP
and only offers of the device's own blocks have happened besides: counts and the other port's state are kept, and the
port's count of receptions cut off is one more (the model's own field, log 9). Where the trunk queue was empty, no
deferred reply is held and STARTED is pending, its notice frame is the first frame of the trunk queue. With node
number 0 or 255, or on a port already UP (the model's choice, log 4), it only makes the offers that are still open. -/
def Obligations.LinePowerUpBringsThePortUp : Prop :=
  ∀ (p : Port) (s : State),
    ((s.port p).up = false → s.address.node ≠ 0 → s.address.node ≠ 255 →
      ∃ t, exec (.linePowerUp p) s = .next t ∧
        Offered ((clearPins s).withPort p { s.port p with up := true, cuts := (s.port p).cuts + 1 }) t ∧
        (t.port p).up = true ∧ (t.port p).checkErrors = (s.port p).checkErrors ∧
        (t.port p).relayDropped = (s.port p).relayDropped ∧
        (p = .trunk → s.trunk.queue = [] → s.deferred = none → (s.notice .started).pending = true →
          ∃ fs, t.trunk.queue =
            ⟨noticeFrame s .started, .notice .started, false, s.trunk.nextOrder, false⟩ :: fs)) ∧
    ((s.port p).up = true ∨ s.address.node = 0 ∨ s.address.node = 255 →
      EndsIn (.linePowerUp p) s (clearPins s))

/-- R1, R2, R41, R167, R171, R188, R189. LINE_POWER_LOSS of an UP port answers a state in which the port is DOWN with
an empty queue and its counts kept. Each withdrawn frame acts as the table of R2 gives: a relayed COMMAND sets
RELAY_UNDELIVERED; on the room port an outbound entry's frame returns its entry to PENDING with all other fields kept,
and a drive ends with outcome NONE: its deferred reply carries NONE, is held where it is for the room port, and is in
the trunk queue where it is for the trunk port and that has room; on the trunk port a notice whose flag is set and a
group report are pending again. Points, zones, clock, pages, parameters and mode are untouched. On a DOWN port it only
makes the offers still open (the model's choice, log 4). -/
def Obligations.LinePowerLossWithdrawsTheQueue : Prop :=
  ∀ (p : Port) (s : State),
    ((s.port p).up = true →
      ∃ t, exec (.linePowerLoss p) s = .next t ∧ (t.port p).up = false ∧ (t.port p).queue = [] ∧
        (t.port p).checkErrors = (s.port p).checkErrors ∧ (t.port p).relayDropped = (s.port p).relayDropped ∧
        (t.port (otherPort p)).up = (s.port (otherPort p)).up ∧
        OwnAppended (s.port (otherPort p)) (t.port (otherPort p)) ∧
        (∀ q ∈ (s.port p).queue,
          (∀ c n, q.owner = .delivery c n → (t.notice .relayUndelivered).flag = true) ∧
          (∀ i e, p = .room → q.owner = .output i → findOutput s i = some e →
            findOutput t i = some { e with state := .pending, timer := none }) ∧
          (∀ k, p = .trunk → q.owner = .notice k → (s.notice k).flag = true → (t.notice k).pending = true) ∧
          (∀ l g, p = .trunk → q.owner = .report l → t.groups[l] = some g → g.reportPending = true)) ∧
        (p = .room → t.drive = none ∧ ∀ d r, s.drive = some d → s.deferred = some r →
          (r.port = .room → t.deferred = some { r with outcome := some .unheard }) ∧
          (r.port = .trunk →
            (t.deferred = none ∨ t.deferred = some { r with outcome := some .unheard }) ∧
            (s.trunk.up = true → s.trunk.queue.length < 16 →
              t.deferred = none ∧ ∃ x ∈ t.trunk.queue, x.owner = .reply ∧
                x.frame = replyFields ⟨.trunk, r.line, r.node, r.priority, false, 0, 0⟩ 26 .ok [3] s))) ∧
        t = { s with room := t.room, trunk := t.trunk, pins := t.pins, outputs := t.outputs, notices := t.notices,
                     groups := t.groups, deferred := t.deferred, drive := t.drive, free := t.free }) ∧
    ((s.port p).up = false → EndsIn (.linePowerLoss p) s (clearPins s))

/-- R18, R20, R26, R51, R54, R55, R57, R63, R67, R68, R82, R97, R98, R119, R120, R141, R142, R160, R169, R178, R182,
R185, R186, R188. TRUNK_LINE_RESET_SIGNAL with the trunk port UP, or with a signal held since before its power was
lost, answers a soft-reset state with STARTED detail 2 and no signal held; with neither it only makes the offers still
open. SOFT_RESET with no argument, on a receiving port that R169 lets it through, not a repeat, is answered ACK and
answers a soft-reset state with detail 1; one with argument bytes is accepted and does nothing else, and no reply is
sent (the model's choice, log 28). In a soft-reset state tables, parameters, mode (as the request's arrival leaves
it), clock, elapsed second, address and port states are kept; counts, overrides, evidence, partition values,
irradiance, sun record, captures, drive, deferred reply and last requester return to their initial values; every point
is AWAITING with no value (its deadline started only in RUN); every entry has toggle 0, no exposed mark and no
confirmed value; the groups are rebuilt, one of each present zone, with the values of R67 and, by its kept booking
view, in EXPECTED with a full no-show limit, PREPARE or VACANT, its report pending or queued; air and light records
start afresh and are then evaluated, so that every present zone shows OFF and a facade zone has sent its blinds to 0;
the mismatch set is emptied and formed anew, each id raising PARTITION_MISMATCH; STARTED is set and its frame is the
first of the trunk queue when the trunk is UP. (The mark of a signal held, that a signal first seen at its end resets,
and that a loss of power leaves it to its end, are the model's, log 10.) -/
def Obligations.SoftResetKeepsTablesAndClearsRuntime : Prop :=
  (∀ s : State,
    (s.trunk.up = true ∨ s.trunkSignal = true →
      ∃ t, exec .trunkLineResetSignal s = .next t ∧ SoftResetLeft 2 s t ∧ t.trunkSignal = false) ∧
    (s.trunk.up = false → s.trunkSignal = false → EndsIn .trunkLineResetSignal s (clearPins s))) ∧
  ∀ (rq : Requester) (a : List Byte) (s : State), receiving rq.port s = true → carriable rq (28 :: a) = true →
    (rq.port = .room → (arrivedBy rq (28 :: a) s).hold = true) →
    s.lastRequester ≠ some ⟨rq.line, rq.node, rq.toggle⟩ →
    (a = [] → ∃ t, exec (.softReset rq a) s = .next t ∧ SoftResetLeft 1 (arrivedBy rq [28] s) t ∧
      t.pins = (answer rq.port (some .ack) (clearPins s)).pins) ∧
    (a ≠ [] → EndsIn (.softReset rq a) s (acceptedBy rq (28 :: a) s))

/-- R1, R2, R6, R11, R17, R18, R19. But for offers still open: ROOM_LINE_RESET_SIGNAL changes nothing but that a frame
in reception on the room line is abandoned; TRUNK_RESET_SIGNAL_SEEN marks the signal held when the trunk port is UP
and changes nothing when it is DOWN; FRAME_ARRIVAL changes nothing when its port is DOWN, when it is the trunk port
while the signal is held, or when its reception was begun before it was cut off, and in these cases ARBITRATION_LOST
only returns the device's frame to WAITING. On a receiving port, a FRAME_ARRIVAL whose bytes are malformed raises that
port's check_errors by one (not above 65535) and changes nothing else: no answer, no capture, no table. So does a
request command whose frame would be malformed (log 5), and ARBITRATION_LOST against a malformed frame, which also
returns the device's frame to WAITING with its order of admission. (The held mark and the count of receptions cut off,
which a command's begun names, are the model's, log 9 and log 10.) -/
def Obligations.SignalsDeafPortsAndMalformedFrames : Prop :=
  ∀ s : State,
    EndsIn .roomLineResetSignal s ((clearPins s).withPort .room { s.room with cuts := s.room.cuts + 1 }) ∧
    (s.trunk.up = true → EndsIn .trunkResetSignalSeen s { clearPins s with trunkSignal := true }) ∧
    (s.trunk.up = false → EndsIn .trunkResetSignalSeen s (clearPins s)) ∧
    ∀ (p : Port) (bytes : List Byte) (begun : Nat),
      let q := s.port p
      let count := if q.checkErrors < 65535 then q.checkErrors + 1 else q.checkErrors
      let waiting := fun (order : Nat) => q.queue.map fun e => if e.order = order then { e with sending := false } else e
      (q.up = false ∨ (p = .trunk ∧ s.trunkSignal = true) ∨ begun ≠ q.cuts →
        EndsIn (.frameArrival p bytes begun) s (clearPins s) ∧
        ∀ h, sendingOf q.queue = some h → losesTo h.frame.encode bytes = true →
          EndsIn (.arbitrationLost p ⟨bytes, begun⟩) s ((clearPins s).withPort p { q with queue := waiting h.order })) ∧
      (receiving p s = true → Frame.decode bytes = none →
        EndsIn (.frameArrival p bytes q.cuts) s ((clearPins s).withPort p { q with checkErrors := count }) ∧
        ∀ h, sendingOf q.queue = some h → losesTo h.frame.encode bytes = true →
          EndsIn (.arbitrationLost p ⟨bytes, q.cuts⟩) s
            ((clearPins s).withPort p { q with queue := waiting h.order, checkErrors := count })) ∧
      (receiving p s = true → ∀ (c : Instr) (rq : Requester) (value : List Byte),
        c.requestOf = some (rq, value) → rq.port = p → rq.node = 0 ∨ rq.node = 255 ∨ 40 < value.length →
        EndsIn c s ((clearPins s).withPort p { q with checkErrors := count }))

/-- R8, R10, R19, R27, R28, R29, R32, R35, R36, R37, R38, R40, R43, R116, R180. A good frame that is not consumed is
shown to the match units and then, but for offers still open, does only this. A QUERY for a report point puts the
REPLY of R43 with the point's content (the notice flags, the report of the group the zone leads, or nothing) in the
queue of its port where that has room. A frame listed by a BLOCK entry is discarded, a COMMAND with NAK in the slot. A
frame listed by a PASS entry is relayed under the relay code if any, an unlisted one under its own code where its
direction's default is PASS, and discarded without answer where it is BLOCK. A MANAGE frame for another node is
relayed where R37 sends it across, without a delivery record; a MANAGE_REPLY likewise, but one for the device is
discarded; neither is answered where it is discarded. To relay is: nothing where hop is 0 or the other port DOWN; the
copy (hop one less) behind the other queue where that has relay room, a COMMAND's with a delivery record of the
arrived code and count 0; else a dropped frame counted at the other port (not above 65535). A COMMAND and a MANAGE
frame are answered ACK with an admitted copy and BUSY without relay room. (That the copy's spare bits are 0 is the
model's reading, log 30.) -/
def Obligations.UnconsumedFramesAreRelayedAnsweredOrDiscarded : Prop :=
  ∀ (p : Port) (bytes : List Byte) (f : Frame) (s : State), Receives p bytes f s →
    let arrival := Instr.frameArrival p bytes (s.port p).cuts
    let u := arrivedAt p f s
    let passed := fun target =>
      relayedAcross p f target (if f.kind = .command then .delivery f.target 0 else .relay) (f.kind == .command) u
    let replied := fun (value : List Byte) =>
      if (s.port p).queue.length < capacity p then
        u.withPort p ((u.port p).enqueue
          { priority := f.priority, kind := .reply, hop := 6, originLine := s.address.trunkLine
            originNode := s.address.node, target := f.target, toggle := false, spare := 0, value := value }
          .relay false)
      else u
    let notices : PointCode := BitVec.ofNat 12 s.params.noticePoint
    let across := if p = .trunk then f.target.extractLsb' 8 4 = s.address.roomLine
      else f.target.extractLsb' 8 4 ≠ s.address.roomLine
    (f.kind = .query → f.target = notices →
      EndsIn arrival s (replied (be16 (allNotices.map fun k => if (u.notice k).flag then 2 ^ k.code.val else 0).sum))) ∧
    (∀ z : Zone, f.kind = .query → f.target ≠ notices → f.target = BitVec.ofNat 12 (s.params.statusBase + z.val) →
      EndsIn arrival s (replied (match s.groups[z] with
        | some g =>
          [byteOf g.state.code, byteOf (allZones.map fun y => if y ∈ g.members then 2 ^ y.val else 0).sum] ++ be16 g.headCount ++
            be16 ((g.members.filterMap fun y => g.booking.list[y]).headD 0) ++ [byteOf g.effOverride.code]
        | none => []))) ∧
    (∀ e, Listed p f e s → e.disposition = .block →
      EndsIn arrival s (if f.kind = .command then answer p (some .nak) u else u)) ∧
    (∀ e, Listed p f e s → e.disposition = .pass → EndsIn arrival s (passed (e.relayCode.getD f.target))) ∧
    (f.kind.isPoint = true → ¬(f.kind = .query ∧ isReportPoint s f.target = true) →
      (∀ e, findPoint s f.target = some e → e.side ≠ p) →
      EndsIn arrival s
        (if (if p = .trunk then s.params.trunkToRoomPass else s.params.roomToTrunkPass) = true then passed f.target
         else u)) ∧
    (f.kind = .manage → forDevice s f = false →
      EndsIn arrival s (if across then relayedAcross p f f.target .relay true u else u)) ∧
    (f.kind = .manageReply →
      EndsIn arrival s
        (if forDevice s f = false ∧ across then relayedAcross p f f.target .relay false u else u))

/-- R10, R27, R30, R31, R33, R34, R36, R39, R40, R48. For a frame listed by a TAKE or COPY entry with a role, after
the match units have been shown it and but for offers still open: under COPY, where a relay is possible, the copy is
relayed (to relay is as for PASS, and a COMMAND's copy has a delivery record); else a COMMAND is answered ACK. A QUERY
does only this. A COMMAND whose length does not fit is only answered NAK, and a STATE or REPLY of such a length
changes nothing, copy included. A COMMAND that repeats the entry's last consumed one, and one that COPY turns away
with BUSY, does only this. Any other frame is consumed besides: its entry keeps its static fields and becomes LIVE
with this second as last arrival and its deadline at this second plus its limit (none for limit 0), a COMMAND's origin
and toggle become its last consumed COMMAND, every other entry is as it was, no further frame is relayed, and only
what an arrival feeds and what follows in the room changes. -/
def Obligations.TakeAndCopyFramesAreConsumed : Prop :=
  ∀ (p : Port) (bytes : List Byte) (f : Frame) (e : PointEntry) (s : State), Receives p bytes f s → Listed p f e s →
    e.disposition = .take ∨ e.disposition = .copy → e.role ≠ none →
    let arrival := Instr.frameArrival p bytes (s.port p).cuts
    let u := arrivedAt p f s
    let crosses := e.disposition = .copy ∧ f.hop ≠ 0 ∧ (s.port (otherPort p)).up = true
    let w :=
      if crosses then
        relayedAcross p f (e.relayCode.getD f.target) (if f.kind = .command then .delivery f.target 0 else .relay)
          (f.kind == .command) u
      else if f.kind = .command then answer p (some .ack) u else u
    (f.kind = .query → EndsIn arrival s w) ∧
    (f.kind = .command → fits e f = false → EndsIn arrival s (answer p (some .nak) u)) ∧
    (f.kind = .state ∨ f.kind = .reply → fits e f = false → EndsIn arrival s u) ∧
    (f.kind = .command → fits e f = true →
      (crosses ∧ admits (otherPort p) true s = false) ∨ e.lastCommand = some ⟨f.originLine, f.originNode, f.toggle⟩ →
      EndsIn arrival s w) ∧
    ∀ r, Consumes p bytes f e r s →
      ∃ t e', exec arrival s = .next t ∧ findPoint t f.target = some e' ∧
        e'.fresh = e.fresh ∧ e'.supervision = .live ∧ e'.lastArrival = some s.elapsed ∧
        e'.deadline = (if e.silenceLimit = 0 then none else some (s.elapsed + e.silenceLimit)) ∧
        e'.lastCommand =
          (if f.kind = .command then some ⟨f.originLine, f.originNode, f.toggle⟩ else e.lastCommand) ∧
        (∀ c, c ≠ f.target → findPoint t c = findPoint s c) ∧
        relayedCount t.room.queue = relayedCount w.room.queue ∧ OwnAppended w.trunk t.trunk ∧ ConsumedFrame w t

/-- R44, R45, R46, R47, R48, R53, R54, R55, R63, R107. What a consumed frame leaves in its entry. A switch role: 0 for
byte 0, else 1, out_of_span for a byte above 1. WALL_KEY: the byte, where it is 0 to 16 or 255; out_of_span otherwise.
SEAT_COUNT, CO2, LUX and SUN: the 16-bit raw value under the range map (clamped to the source bounds, mapped with the
quotient rounded half away from zero) and clamped to 400, 5000, 20000 or 1500; out_of_span where a clamp changed a
value; with a lane map each carried lane so, the other lanes kept. OVERRIDE and CLOCK: out_of_span by their ranges. A
PARTITION arrival sets the value of its partition and a SUN arrival the irradiance; every other arrival leaves both.
An OVERRIDE arrival of mode 0 to 2 sets the override of every zone it reaches, with the expiry its minutes, at most
720, give (none for 0 minutes and for AUTO), and no other override changes. A zone whose window-open aggregate goes to
open has this second as window opened at, one whose aggregate goes to closed none, and every other keeps its own. -/
def Obligations.ConsumedValuesAreDecoded : Prop :=
  ∀ (p : Port) (bytes : List Byte) (f : Frame) (e : PointEntry) (r : Role) (s : State), Consumes p bytes f e r s →
    let b := fun k => u8 f.value k
    let raw : Nat → Nat := fun k => b (2 * k) * 256 + b (2 * k + 1)
    let top : Nat := match r with
      | .seatCount => 400
      | .co2 => 5000
      | .lux => 20000
      | _ => 1500
    let value : Nat → Nat × Bool := fun n => match e.rangeMap with
      | none => (if top < n then top else n, decide (top < n))
      | some m =>
        let c := if n < m.sourceLow then m.sourceLow else if m.sourceHigh < n then m.sourceHigh else n
        let x : Int := ((c : Int) - m.sourceLow) * ((m.targetHigh : Int) - m.targetLow)
        let d := m.sourceHigh - m.sourceLow
        let v : Int := m.targetLow + (if x < 0 then -1 else 1) * ((2 * x.natAbs + d) / (2 * d) : Nat)
        ((if v < 0 then 0 else if top < v then top else v.toNat), decide (c ≠ n ∨ v < 0 ∨ top < v))
    ∃ t e', exec (.frameArrival p bytes (s.port p).cuts) s = .next t ∧ findPoint t f.target = some e' ∧
      (∀ m, e.attachment = .lanes m → r = .seatCount ∨ r = .co2 ∨ r = .lux →
        (∀ k : Fin 4, e'.lanes[k] = if 2 * k.val + 1 < f.value.length then some (value (raw k)).1 else e.lanes[k]) ∧
        e'.outOfSpan = decide (∃ k : Fin 4, 2 * k.val + 1 < f.value.length ∧ (value (raw k)).2 = true)) ∧
      ((∀ m, e.attachment ≠ .lanes m) →
        match r with
        | .motion | .door | .window | .projector | .partition =>
          e'.last = some (.number (if b 0 = 0 then 0 else 1)) ∧ e'.outOfSpan = decide (1 < b 0)
        | .wallKey =>
          (b 0 ≤ 16 ∨ b 0 = 255 → e'.last = some (.number (b 0))) ∧
          e'.outOfSpan = decide (16 < b 0 ∧ b 0 ≠ 255)
        | .seatCount | .co2 | .lux | .sun =>
          e'.last = some (.number (value (raw 0)).1) ∧ e'.outOfSpan = (value (raw 0)).2
        | .override => e'.outOfSpan = decide (2 < b 0 ∨ 720 < b 1 * 256 + b 2)
        | .clock => e'.outOfSpan = decide (6 < b 0 ∨ 1439 < b 1 * 256 + b 2 ∨ 59 < b 3)) ∧
      (∀ k : Fin 3, t.partitions[k] =
        if r = .partition ∧ e.attachment = .partition k then some (decide (b 0 ≠ 0)) else s.partitions[k]) ∧
      t.irradiance = (if r = .sun then some (value (raw 0)).1 else s.irradiance) ∧
      (∀ z : Zone,
        (r = .override → b 0 ≤ 2 → e.reaches f.value.length s z →
          t.overrides[z] = (if b 0 = 0 then ⟨.auto, none⟩ else
            ⟨if b 0 = 1 then .forceOccupied else .forceVacant,
              if b 1 * 256 + b 2 = 0 then none else some (s.elapsed + 60 * min 720 (b 1 * 256 + b 2))⟩)) ∧
        (¬(r = .override ∧ b 0 ≤ 2 ∧ e.reaches f.value.length s z) → t.overrides[z] = s.overrides[z])) ∧
      ∀ z : Zone, t.evidence[z].windowOpenedAt =
        if windowOpen t z = windowOpen s z then s.evidence[z].windowOpenedAt
        else if windowOpen t z = true then some s.elapsed else none

/-- R52, R53. A zone that is not present has no contributions. To a present zone an entry contributes only while it is
LIVE and has the role: through a zone set that holds the zone its last value, a SEAT_COUNT entry only the zone's share
of it, apportioned over the present zones of the set by area; through a lane map the value of each lane that names the
zone and has one. The seat count is the sum of the contributions, at most 400, the CO2 aggregate their maximum, the
lux aggregate their mean, truncated, each none without a contribution; a window is open, and a projector on, exactly
when a contribution is 1. The group seat-count sum adds the seat counts of the members that have one, at most 400, and
is none where no member has one. -/
def Obligations.AggregatesComeFromLiveContributions : Prop :=
  ∀ (s : State) (z : Zone),
    let seats := contributions s .seatCount z
    let co2 := contributions s .co2 z
    let lux := contributions s .lux z
    (∀ r, present s z = false → contributions s r z = []) ∧
    (∀ r, s.points = [] → contributions s r z = []) ∧
    (∀ (r : Role) (e : PointEntry) (rest : List PointEntry), present s z = true → s.points = e :: rest →
      contributions s r z =
        (if e.role = some r ∧ e.supervision = .live then
          match e.attachment, e.last with
          | .zones set, some (.number n) =>
            if set[z] then
              let shared := allZones.filter fun y => set[y] && present s y
              [if r = .seatCount then
                (apportion n (shared.map fun y => (s.zones[y].map (·.area)).getD 0)).getD (shared.idxOf z) 0 else n]
            else []
          | .lanes map, _ => allZones.filterMap fun k => if map[k] = some z then e.lanes[k] else none
          | _, _ => []
        else []) ++ contributions { s with points := rest } r z) ∧
    (seatCount s z = if seats = [] then none else some (min 400 seats.sum)) ∧
    (co2 = [] → co2Of s z = none) ∧
    (∀ v ∈ co2, (∀ w ∈ co2, w ≤ v) → co2Of s z = some v) ∧
    (luxOf s z = if lux = [] then none else some (lux.sum / lux.length)) ∧
    (windowOpen s z = true ↔ 1 ∈ contributions s .window z) ∧
    (projectorOn s z = true ↔ 1 ∈ contributions s .projector z) ∧
    ∀ members : List Zone,
      ((∀ y ∈ members, seatCount s y = none) → seatSum s members = none) ∧
      ((∃ y ∈ members, seatCount s y ≠ none) →
        seatSum s members = some (min 400 (members.map fun y => (seatCount s y).getD 0).sum))

/-- R48, R56, R58, R100, R101, R102, R107, R109, R110, R113, R138, R143, R144, R145, R146. With the room sound and the
point table in order: what a consumed frame of a presence role does. Strong evidence for a zone it reaches: any
WALL_KEY, a PROJECTOR of 1 that was not LIVE with 1, a SEAT_COUNT that leaves the zone's seat count above 0; weak: a
MOTION of 1, a DOOR other than the last value. A zone with evidence has this second as last presence, and no other
zone's changes; its pending time becomes none at strong evidence and when its group is confirmed, and at weak evidence
this second where it was none or older than the confirm window. Its group has this second as last presence. Under
AUTO, strong evidence takes it to OCCUPIED; weak evidence does from EXPECTED and HOLDOVER, and from VACANT, PREPARE
and NO_SHOW within the confirm window of pending since, which otherwise becomes this second (two zones of one group in
one arrival confirm it, the model's choice, log 19). A group that becomes OCCUPIED has no deadlines and no pending
since, is attended where booked, and has the head count of R113. A forced group keeps its state and pending since. A
WALL_KEY of 0, 1 to 16 or 255 at a group then OCCUPIED or in HOLDOVER sets its manual scene to OFF, the scene, or
none, and every member takes a scene change to the selection; it is discarded at any other group. After an OVERRIDE of
mode 0 to 2 the group of a zone it reaches holds the effective override of its members, and is OCCUPIED or VACANT
where that has newly become FORCE_OCCUPIED or FORCE_VACANT; its last presence is kept. -/
def Obligations.EvidenceKeysAndOverridesReachTheirGroups : Prop :=
  ∀ (p : Port) (bytes : List Byte) (f : Frame) (e : PointEntry) (r : Role) (s : State), Consumes p bytes f e r s →
    RoomSound s → PointsSound s →
    let byte := u8 f.value 0
    let reached := e.reaches f.value.length s
    ∃ t, exec (.frameArrival p bytes (s.port p).cuts) s = .next t ∧
      let strong := fun z => reached z ∧ (r = .wallKey ∨
        (r = .projector ∧ byte ≠ 0 ∧ ¬(e.supervision = .live ∧ e.last = some (.number 1))) ∨
        (r = .seatCount ∧ 0 < (seatCount t z).getD 0))
      let weak := fun z => reached z ∧ ((r = .motion ∧ byte ≠ 0) ∨
        (r = .door ∧ e.last ≠ none ∧ e.last ≠ some (.number (if byte = 0 then 0 else 1))))
      (∀ z : Zone, t.evidence[z].lastPresence ≠ s.evidence[z].lastPresence → strong z ∨ weak z) ∧
      (∀ z : Zone, strong z ∨ weak z → t.evidence[z].lastPresence = some s.elapsed ∧
        ∀ l g, groupOf s z = some (l, g) → ∃ h, t.groups[l] = some h ∧ h.members = g.members ∧
          h.lastPresence = some s.elapsed ∧
          (strong z → t.evidence[z].pendingTime = none ∧ (g.effOverride = .auto → h.state = .occupied)) ∧
          (weak z →
            t.evidence[z].pendingTime =
              (if h.state = .occupied ∧ g.state ≠ .occupied then none
              else match s.evidence[z].pendingTime with
                | some a => if a + s.params.confirmWindow < s.elapsed then some s.elapsed else some a
                | none => some s.elapsed) ∧
            (g.effOverride = .auto →
              (g.state = .expected ∨ g.state = .holdover ∨ g.state = .occupied → h.state = .occupied) ∧
              (g.state = .vacant ∨ g.state = .prepare ∨ g.state = .noShow →
                let confirmed := (∃ a ∈ g.pendingSince, s.elapsed ≤ a + s.params.confirmWindow) ∨
                  ∃ y ∈ g.members, y ≠ z ∧ weak y
                (confirmed → h.state = .occupied) ∧
                (¬confirmed → h.state = g.state ∧ h.pendingSince = some s.elapsed)))) ∧
          (h.state = .occupied → g.state ≠ .occupied →
            h.pendingSince = none ∧ h.holdoverDeadline = none ∧ h.noShowDeadline = none ∧
            h.attended = (g.attended || g.booked) ∧ h.headCount = estimateOf t h) ∧
          (g.effOverride ≠ .auto → h.state = g.state ∧ h.pendingSince = g.pendingSince)) ∧
      (r = .wallKey → byte ≤ 16 ∨ byte = 255 → ∀ z l g, reached z → groupOf s z = some (l, g) →
        ∃ h, t.groups[l] = some h ∧
          (h.state = .occupied ∨ h.state = .holdover →
            h.manualScene = (if byte = 255 then none else if byte = 0 then some .off else some (.scene byte)) ∧
            ∀ y ∈ g.members, t.light[y].scene = some (shownScene t h) ∧
              t.light[y].fadeEnd = some (s.elapsed + (content s (shownScene t h)).fade) ∧
              ∀ ch : Fin 4, t.light[y].modes[ch] = ((content s (shownScene t h)).channels[ch]).isDaylight ∧
                t.light[y].levels[ch] = ((content s (shownScene t h)).channels[ch]).startLevel) ∧
          (h.state ≠ .occupied → h.state ≠ .holdover → h.manualScene = g.manualScene ∧
            ∀ y ∈ g.members, t.light[y] = s.light[y])) ∧
      (r = .override → byte ≤ 2 → ∀ z l g, reached z → groupOf s z = some (l, g) →
        ∃ h, t.groups[l] = some h ∧ h.members = g.members ∧ h.lastPresence = g.lastPresence ∧
          h.effOverride = effectiveOverride t g.members ∧
          (h.effOverride ≠ g.effOverride →
            (h.effOverride = .forceOccupied → h.state = .occupied) ∧ (h.effOverride = .forceVacant → h.state = .vacant)))

/-- R45, R55, R83, R84, R91, R92, R93, R97, R142, R149. A consumed CLOCK frame of a valid time clears the free-running
mark. With the clock UNSET its time is adopted. With the clock SET, the difference is taken the shortest way round the
week: between -2 and +2 s nothing else of the clock or the views changes; otherwise wing time is the arrival's, and
beyond 120 s CLOCK_STEPPED is set with the difference in whole minutes, truncated, as its detail. At an adoption and a
step every zone's view shows the ACTIVE page at the new time, and the mismatch set is formed anew, an id that enters
raising PARTITION_MISMATCH. A CLOCK frame of no valid time leaves clock, mark and views. A consumed SUN frame: in
SUN_LOW a value of at least sun_high starts or continues the high candidate, which at 120 s gives SUN_HIGH without
candidates, a lower value ends it; in SUN_HIGH a value below sun_low does so with the low candidate and 900 s, a
higher one ends it; where the sun state changes, every present zone's blind target is formed anew. Any other consumed
frame leaves clock, mark, views and sun record. -/
def Obligations.ClockAndSunFollowTheirArrivals : Prop :=
  ∀ (p : Port) (bytes : List Byte) (f : Frame) (e : PointEntry) (r : Role) (s : State), Consumes p bytes f e r s →
    let b := u8 f.value
    let time : WingTime := ⟨b 0, b 1 * 256 + b 2, b 3⟩
    let valid := time.weekday ≤ 6 ∧ time.minute ≤ 1439 ∧ time.second ≤ 59
    ∃ t, exec (.frameArrival p bytes (s.port p).cuts) s = .next t ∧
      (¬(r = .clock ∧ valid) → t.clock = s.clock ∧ t.freeRunning = s.freeRunning ∧ t.views = s.views) ∧
      (r = .clock → valid → t.freeRunning = false ∧
        (s.clock = none → t.clock = some time ∧ (∀ z : Zone, ViewShows t z t.views[z]) ∧
          MismatchAfter s.mismatch (s.notice .partitionMismatch) t) ∧
        ∀ w, s.clock = some w →
          let second := fun (x : WingTime) => (((x.weekday * 1440 + x.minute) * 60 + x.second : Nat) : Int)
          let raw : Int := second time - second w
          let d : Int := if raw < -302399 then raw + 604800 else if 302400 < raw then raw - 604800 else raw
          (-2 ≤ d ∧ d ≤ 2 → t.clock = some w ∧ t.views = s.views) ∧
          (¬(-2 ≤ d ∧ d ≤ 2) → t.clock = some time ∧ (∀ z : Zone, ViewShows t z t.views[z]) ∧
            MismatchAfter s.mismatch (s.notice .partitionMismatch) t) ∧
          (¬(-120 ≤ d ∧ d ≤ 120) → (t.notice .clockStepped).flag = true ∧
            (t.notice .clockStepped).detail = some (BitVec.ofInt 16 (Int.tdiv d 60) ++ (0 : BitVec 8)))) ∧
      (r ≠ .sun → t.sun = s.sun) ∧
      (r = .sun → ∃ v, t.irradiance = some v ∧
        (s.sun.high = false → s.params.sunHigh ≤ v →
          let since := s.sun.highSince.getD s.elapsed
          if since + 120 ≤ s.elapsed then t.sun = ⟨true, none, none⟩
          else t.sun = { s.sun with highSince := some since }) ∧
        (s.sun.high = false → v < s.params.sunHigh → t.sun = { s.sun with highSince := none }) ∧
        (s.sun.high = true → v < s.params.sunLow →
          let since := s.sun.lowSince.getD s.elapsed
          if since + 900 ≤ s.elapsed then t.sun = ⟨false, none, none⟩
          else t.sun = { s.sun with lowSince := some since }) ∧
        (s.sun.high = true → s.params.sunLow ≤ v → t.sun = { s.sun with lowSince := none }) ∧
        (t.sun.high ≠ s.sun.high → ∀ (z : Zone) (c : ZoneConfig), s.zones[z] = some c →
          t.light[z].blindTarget = blindGoal t z c))

/-- R54, R64, R65, R66, R67, R69, R70, R71, R72, R73, R74, R75, R76, R78, R100, R115. With the room sound and the
point table in order: a consumed PARTITION frame that opens a configured partition between two present zones makes one
group of the two, under the lower leader, with the members of both: the state of the higher in the order of R69 (the
lower group's where equal), but EXPECTED for PREPARE where booked; attended, last presence, pending since, deadlines
and head count by R70 and R71, and the members' pending times none where the state taken is OCCUPIED, HOLDOVER or
EXPECTED (see log 34 for the others). One that closes it makes two groups of the members below and above it, which
keep state, deadlines and manual scene by R72, but take their booking view by R73; last presence and pending since
from their own members, head count by R74. In both the effective override is that of the members, and where it differs
from the one the state was taken with the group is OCCUPIED or VACANT as it is forced, and in HOLDOVER where it is
released from FORCE_OCCUPIED; a part released from FORCE_VACANT takes its booking view (R75; that it comes before
R115, and that a group still forced vacant stays VACANT at a split, are the model's choice, log 21). Every other
group, and every zone's override, is as it was. The mismatch set is formed anew over the new groups, and an id that
enters it raises PARTITION_MISMATCH (R97). A frame that leaves the partition's effective state leaves every group, the
set and the notice. -/
def Obligations.PartitionArrivalsMergeAndSplitGroups : Prop :=
  ∀ (p : Port) (bytes : List Byte) (f : Frame) (e : PointEntry) (k : Fin 3) (c : ZoneConfig) (s : State),
    Consumes p bytes f e .partition s → e.attachment = .partition k → RoomSound s → PointsSound s →
    s.zones[k.castSucc] = some c →
    present s k.succ = true →
    let later := fun (x y : Option Nat) => match x, y with
      | some a, some b => some (max a b)
      | some a, none => some a
      | none, b => b
    let earlier := fun (x y : Option Nat) => match x, y with
      | some a, some b => some (min a b)
      | some a, none => some a
      | none, b => b
    let rank : Occupancy → Nat := fun st => match st with
      | .occupied => 5
      | .holdover => 4
      | .expected => 3
      | .prepare => 2
      | .noShow => 1
      | .vacant => 0
    let unbooked := fun (g : Group) => if g.hasUpcoming then Occupancy.prepare else .vacant
    ∃ t, exec (.frameArrival p bytes (s.port p).cuts) s = .next t ∧ t.overrides = s.overrides ∧
      ((c.partitionToNext = false ∨ (u8 f.value 0 = 0 ↔ s.partitions[k] = some false)) →
        (∀ y : Zone, t.groups[y].map Group.unmarked = s.groups[y].map Group.unmarked) ∧ t.mismatch = s.mismatch ∧
          (t.notice .partitionMismatch).flag = (s.notice .partitionMismatch).flag ∧
          (t.notice .partitionMismatch).detail = (s.notice .partitionMismatch).detail) ∧
      (c.partitionToNext = true → u8 f.value 0 = 0 → s.partitions[k] ≠ some false →
        ∀ l lo m hi, groupOf s k.castSucc = some (l, lo) → groupOf s k.succ = some (m, hi) →
        MismatchAfter s.mismatch (s.notice .partitionMismatch) t ∧
        ∃ g, t.groups[l] = some g ∧ t.groups[m] = none ∧ g.members = lo.members ++ hi.members ∧
          (∀ y : Zone, y ≠ l → y ≠ m → t.groups[y].map Group.unmarked = s.groups[y].map Group.unmarked) ∧
          g.manualScene = none ∧ g.lastPresence = later lo.lastPresence hi.lastPresence ∧
          g.effOverride = effectiveOverride s g.members ∧ (∀ y ∈ g.members, g.booking.list[y] = s.views[y].active) ∧
          let src := if rank lo.state < rank hi.state then hi else lo
          (src.state = .occupied ∨ src.state = .holdover ∨ src.state = .expected →
            ∀ y ∈ g.members, t.evidence[y].pendingTime = none) ∧
          (g.effOverride = src.effOverride →
            g.state = (if src.state = .prepare ∧ g.booked = true then .expected else src.state) ∧
            g.attended = (lo.attended || hi.attended) ∧
            g.pendingSince = (if g.state = .vacant ∨ g.state = .prepare ∨ g.state = .noShow then
              earlier lo.pendingSince hi.pendingSince else none) ∧
            g.holdoverDeadline =
              (if g.state = .holdover then later lo.holdoverDeadline hi.holdoverDeadline else none) ∧
            g.noShowDeadline = (if g.state ≠ .expected ∨ g.attended = true then none
              else if src.state = .expected then later lo.noShowDeadline hi.noShowDeadline
              else some (s.elapsed + s.params.noShowLimit)) ∧
            g.headCount = (if g.state = .occupied then estimateOf t g
              else if g.state = .holdover then min 400 (lo.headCount + hi.headCount) else 0)) ∧
          (g.effOverride ≠ src.effOverride →
            (g.effOverride = .forceOccupied → g.state = .occupied ∧ g.headCount = estimateOf t g) ∧
            (g.effOverride = .forceVacant → g.state = .vacant ∧ g.headCount = 0) ∧
            (g.effOverride = .auto → src.effOverride = .forceOccupied → g.state = .holdover))) ∧
      (c.partitionToNext = true → u8 f.value 0 ≠ 0 → s.partitions[k] = some false →
        ∀ l g, groupOf s k.castSucc = some (l, g) →
        MismatchAfter s.mismatch (s.notice .partitionMismatch) t ∧
        ∃ a b, t.groups[l] = some a ∧ t.groups[k.succ] = some b ∧
          a.members = g.members.filter (· ≤ k.castSucc) ∧ b.members = g.members.filter (k.castSucc < ·) ∧
          (∀ y : Zone, y ≠ l → y ≠ k.succ → t.groups[y].map Group.unmarked = s.groups[y].map Group.unmarked) ∧
          ∀ n, n = a ∨ n = b →
            n.effOverride = effectiveOverride s n.members ∧ (∀ y ∈ n.members, n.booking.list[y] = s.views[y].active) ∧
            n.lastPresence = (match n.members.foldl (fun x y => later x s.evidence[y].lastPresence) none with
              | some x => some x
              | none => if g.state = .occupied then some s.elapsed else none) ∧
            (n.effOverride = g.effOverride → ¬(n.effOverride = .forceVacant ∧ g.state = .vacant) →
              n.state = (match g.state with
                | .expected => if n.booked then .expected else unbooked n
                | .noShow => if n.booked then .noShow else unbooked n
                | .prepare => if n.booked || n.hasUpcoming then .prepare else .vacant
                | .vacant => if n.booked then .expected else unbooked n
                | .occupied => .occupied
                | .holdover => .holdover) ∧
              n.attended = (n.booked && g.attended) ∧
              n.pendingSince = (if n.state = .expected ∧ g.state = .vacant then none
                else n.members.foldl (fun x y => earlier x s.evidence[y].pendingTime) none) ∧
              (n.state = g.state → n.holdoverDeadline = g.holdoverDeadline ∧ n.noShowDeadline = g.noShowDeadline) ∧
              (n.state ≠ g.state → n.holdoverDeadline = none ∧ n.noShowDeadline =
                (if n.state = .expected ∧ n.attended = false then some (s.elapsed + s.params.noShowLimit) else none)) ∧
              n.manualScene = (if n.state = .occupied ∨ n.state = .holdover then g.manualScene else none) ∧
              n.headCount = (if n.state = .occupied then estimateOf t n
                else if n.state = .holdover then
                  (n.members.map fun y => (apportion g.headCount (g.members.map fun x =>
                    (s.zones[x].map (·.area)).getD 0)).getD (g.members.idxOf y) 0).sum
                else 0)) ∧
            (n.effOverride = .forceVacant → n.state = .vacant ∨ n.effOverride = g.effOverride) ∧
            (n.effOverride = .forceVacant → g.effOverride = .forceVacant → g.state = .vacant → n.state = .vacant) ∧
            (n.effOverride ≠ g.effOverride →
              (n.effOverride = .forceOccupied → n.state = .occupied ∧ n.headCount = estimateOf t n) ∧
              (n.effOverride = .forceVacant → n.headCount = 0) ∧
              (n.effOverride = .auto → g.effOverride = .forceVacant → g.state = .vacant →
                n.state = (if n.booked then .expected else unbooked n) ∧ n.headCount = 0) ∧
              (n.effOverride = .auto → g.effOverride = .forceOccupied → n.state = .holdover)))

/-- R65, R68, R76, R113, R114, R116, R117, R122, R123, R125, R136. With the room sound. Where a command but the tick
(which takes the commands left due first) leaves a group whose state, membership or head count estimate is not that of
the record before it, or a group where there was none, the air record of every member is what a prompt evaluation
makes of the zone as it then stands; so is that of a present zone whose window aggregate has changed. And where any
command leaves a group whose state, members, head count estimate, reported booking id or effective override is not
that of the record before it, or a new group, its report is pending, or the trunk queue holds a frame built from the
record as it stands. -/
def Obligations.GroupChangesAreHandedOn : Prop :=
  ∀ (c : Instr) (s t : State), RoomSound s → exec c s = .next t →
    (c ≠ .elapsedSecondTick →
      (∀ (l : Zone) (h : Group), t.groups[l] = some h →
        (∀ g, s.groups[l] = some g → h.state ≠ g.state ∨ h.members ≠ g.members ∨ h.headCount ≠ g.headCount) →
        ∀ z ∈ h.members, Evaluated t z) ∧
      ∀ z : Zone, present t z = true → windowOpen t z ≠ windowOpen s z → Evaluated t z) ∧
    ∀ (l : Zone) (h : Group), t.groups[l] = some h → (∀ g, s.groups[l] = some g → h.reportsOtherThan g) →
      h.reportPending = true ∨ ∃ q ∈ t.trunk.queue, q.owner = .report l ∧ q.frame = reportFrame t l h

/-- R6, R13, R183, R185, R186. With the counts within their ranges, the match units are shown every good frame that
arrives and every frame whose transmission ends, and do with it what UnitsShown says: each enabled unit whose side
takes the port and whose point (of a point kind) or origin it carries counts a hit, in ascending unit number one
record each enters the capture queue while it holds fewer than 32, the rest raise the overflow count with
CAPTURE_OVERFLOW, and a CAPTURE_HOLD unit takes the device from RUN to HOLD with HOLD_ENTERED and its unit number. For
a frame that is no MANAGE frame, and for a transmitted frame, the whole command leaves just that; for any good frame,
what stands when its handling begins is that, and the state is otherwise as it was. -/
def Obligations.MatchUnitsAreShownTheirFrames : Prop :=
  ∀ (p : Port) (s : State), CountsSound s →
    (∀ (bytes : List Byte) (f : Frame), Receives p bytes f s →
      (UnitsShown false p f s (arrivedAt p f s) ∧ ShownFrame (clearPins s) (arrivedAt p f s)) ∧
      (f.kind ≠ .manage → ∃ t, exec (.frameArrival p bytes (s.port p).cuts) s = .next t ∧ UnitsShown false p f s t)) ∧
    ∀ (heard : Option (Byte × Byte)) (q : Queued), sendingOf (s.port p).queue = some q →
      ∃ t, exec (.transmissionOutcome p heard) s = .next t ∧ UnitsShown true p q.frame s t

/-- R37, R169, R172, R185. When a port receives the encoding of a good MANAGE frame whose target is the device's own
address, FRAME_ARRIVAL answers exactly what the request command of its value answers: the command of the request code
the value begins with, or UNKNOWN_REQUEST, for the frame's port and header and with the bytes behind the code. -/
def Obligations.ManageFrameIsTheRequestCommand : Prop :=
  ∀ (p : Port) (f : Frame) (s : State), Receives p f.encode f s → f.kind = .manage → forDevice s f = true →
    exec (.frameArrival p f.encode (s.port p).cuts) s =
      exec (requestCommand ⟨p, f.originLine, f.originNode, f.priority, f.toggle, f.hop, f.spare⟩ f.value) s

/-- R169, R170. For every request command that a good frame can carry, on a receiving port: from the room port in RUN
(as the frame's own arrival leaves the mode), with a code other than HOLD, the answer is NAK; otherwise, where origin
and toggle equal the last requester, the answer is ACK; otherwise, where the queue of the arrival port is full and the
request is not SOFT_RESET, the answer is BUSY. In each case the match units' work and offers still open are all that
changes besides, and the last requester stays. -/
def Obligations.ResponderTurnsRequestsAway : Prop :=
  ∀ (c : Instr) (rq : Requester) (value : List Byte) (s : State), c.requestOf = some (rq, value) →
    carriable rq value = true → receiving rq.port s = true →
    let u := arrivedBy rq value s
    let barred := rq.port = .room ∧ u.hold = false ∧ valueCode value ≠ 24
    (barred → EndsIn c s (answer rq.port (some .nak) u)) ∧
    (¬barred → s.lastRequester = some ⟨rq.line, rq.node, rq.toggle⟩ → EndsIn c s (answer rq.port (some .ack) u)) ∧
    (¬barred → s.lastRequester ≠ some ⟨rq.line, rq.node, rq.toggle⟩ → valueCode value ≠ 28 →
      capacity rq.port ≤ (s.port rq.port).queue.length → EndsIn c s (answer rq.port (some .busy) u)) ∧
    u.lastRequester = s.lastRequester

/-- R11, R17. But for offers still open: on an UP port whose queue is in order of admission, holds at least one frame
and has none SENDING, FRAME_START makes one frame SENDING and changes nothing else; that frame has no frame of lower
priority number beside it, and among those of its priority it has the earliest order of admission. On an empty queue,
with a frame SENDING, or on a DOWN port it changes nothing (the model's choice, log 4). ARBITRATION_LOST against a
frame that wins over the SENDING one answers what the winner's arrival answers with the device's frame WAITING again,
also where the winner's reception was cut off (log 9). (That FRAME_START means a free line, and that the winner's bits
are checked, are the model's, log 11.) -/
def Obligations.FrameStartSendsTheHead : Prop :=
  ∀ (p : Port) (s : State),
    let sent := fun (order : Nat) (b : Bool) => { s.port p with
      queue := (s.port p).queue.map fun e => if e.order = order then { e with sending := b } else e }
    ((s.port p).up = true → QueueOrdered (s.port p) → (∀ e ∈ (s.port p).queue, e.sending = false) →
      (s.port p).queue ≠ [] →
      ∃ h ∈ (s.port p).queue,
        (∀ e ∈ (s.port p).queue, h.frame.priority.toNat < e.frame.priority.toNat ∨
          (h.frame.priority = e.frame.priority ∧ h.order ≤ e.order)) ∧
        EndsIn (.frameStart p) s ((clearPins s).withPort p (sent h.order true))) ∧
    ((s.port p).up = false ∨ (s.port p).queue = [] ∨ (∃ e ∈ (s.port p).queue, e.sending = true) →
      EndsIn (.frameStart p) s (clearPins s)) ∧
    ∀ (winner : List Byte) (begun : Nat) (h : Queued), sendingOf (s.port p).queue = some h →
      losesTo h.frame.encode winner = true →
      exec (.arbitrationLost p ⟨winner, begun⟩) s =
        exec (.frameArrival p winner begun) (s.withPort p (sent h.order false))

/-- R9, R13, R157, R162, R164, R165, R166. When the SENDING frame of the room queue belongs to an outbound entry, the
frame leaves the queue, and every other entry is unchanged but for an admission, and only the state an outcome touches
changes. No valid answer: the retry count rises by one, exposed becomes yes and the busy count 0; BUSY: the busy count
rises by one. The entry enters BACKOFF with its timer 2 s ahead (retries up to 3, busies up to 9), else UNANSWERED
with its timer 60 s ahead and ACTUATOR_UNANSWERED set with its point code; all its other fields, the toggle included,
are kept. ACK or NAK, where the entry has a sent value: the toggle flips, exposed becomes no, both counts 0, the next
value none, the computed value stays. After ACK the confirmed value is the sent value, and the entry is CONFIRMED with
its refresh timer (none for interval 0), or, where the computed value differs beyond the deadband, PENDING or already
QUEUED again. After NAK the confirmed value is kept, ACTUATOR_REFUSED is set with the point code, and the entry is
REFUSED, or, where the next value differs in its compared quantity from the sent one, PENDING or QUEUED. -/
def Obligations.EntryTakesItsOutcome : Prop :=
  ∀ (heard : Option (Byte × Byte)) (q : Queued) (i : OutIndex) (e : OutEntry) (s : State),
    sendingOf s.room.queue = some q → q.owner = .output i → q.frame.kind = .command → findOutput s i = some e →
    ∃ t x, exec (.transmissionOutcome .room heard) s = .next t ∧ OutcomeFrame s t ∧ findOutput t i = some x ∧
      OwnAppended { s.room with queue := s.room.queue.filter fun x => x.order != q.order } t.room ∧
      (∀ j y, j ≠ i → findOutput s j = some y → findOutput t j = some y ∨ ∃ n, findOutput t j = some (y.admitted n)) ∧
      (heardOutcome heard = .unheard →
        if e.retries < 3 then
          x = { e with retries := e.retries + 1, exposed := true, busies := 0, state := .backoff,
                       timer := some (s.elapsed + 2) }
        else
          x = { e with retries := e.retries + 1, exposed := true, busies := 0, state := .unanswered,
                       timer := some (s.elapsed + 60) } ∧
          (t.notice .actuatorUnanswered).flag = true ∧
          (t.notice .actuatorUnanswered).detail = some (e.code.setWidth 16 ++ (0 : BitVec 8))) ∧
      (heardOutcome heard = .busy →
        if e.busies < 9 then
          x = { e with busies := e.busies + 1, state := .backoff, timer := some (s.elapsed + 2) }
        else
          x = { e with busies := e.busies + 1, state := .unanswered, timer := some (s.elapsed + 60) } ∧
          (t.notice .actuatorUnanswered).flag = true ∧
          (t.notice .actuatorUnanswered).detail = some (e.code.setWidth 16 ++ (0 : BitVec 8))) ∧
      (heardOutcome heard = .ack ∨ heardOutcome heard = .nak →
        x.toggle = !e.toggle ∧ x.exposed = false ∧ x.retries = 0 ∧ x.busies = 0 ∧ x.next = none ∧
        x.computed = e.computed ∧ x.restart = e.restart) ∧
      ∀ v, e.sent = some v →
        (heardOutcome heard = .ack → x.confirmed = some v ∧
          if (∃ c ∈ e.computed, beyondDeadband e.function e.deadband c v = true) then
            x.state = .pending ∨ x.state = .queued
          else
            x.state = .confirmed ∧ x.timer = if e.refresh = 0 then none else some (s.elapsed + e.refresh)) ∧
        (heardOutcome heard = .nak → x.confirmed = e.confirmed ∧
          (t.notice .actuatorRefused).flag = true ∧
          (t.notice .actuatorRefused).detail = some (e.code.setWidth 16 ++ (0 : BitVec 8)) ∧
          if (∃ n ∈ e.next, n.quantity ≠ v.quantity) then x.state = .pending ∨ x.state = .queued
          else x.state = .refused)

/-- R13, R40, R41. When the SENDING frame of an UP port is a relayed COMMAND with its delivery record, in a queue
within its bounds and in order: after ACK it leaves and RELAY_UNDELIVERED is as before; after BUSY or NONE with a
count below 3 the same frame is admitted again as a relayed frame, behind the frames left, with the count one higher,
before any other owner's offer; after NAK, or BUSY or NONE at count 3 or above, RELAY_UNDELIVERED is set with the code
the frame arrived with, and the frame is gone. Only the state an outcome touches changes. -/
def Obligations.RelayedCommandIsFollowedToItsEnd : Prop :=
  ∀ (p : Port) (heard : Option (Byte × Byte)) (q : Queued) (c : PointCode) (n : Nat) (s : State),
    (s.port p).up = true → QueueBounded p (s.port p) → QueueOrdered (s.port p) →
    sendingOf (s.port p).queue = some q → q.owner = .delivery c n → q.relayed = true → q.frame.kind = .command →
    let left := (s.port p).queue.filter fun x => x.order != q.order
    ∃ t, exec (.transmissionOutcome p heard) s = .next t ∧ OutcomeFrame s t ∧
      (heardOutcome heard = .ack →
        OwnAppended { s.port p with queue := left } (t.port p) ∧
        (t.notice .relayUndelivered).flag = (s.notice .relayUndelivered).flag ∧
        (t.notice .relayUndelivered).detail = (s.notice .relayUndelivered).detail) ∧
      ((heardOutcome heard = .busy ∨ heardOutcome heard = .unheard) → n < 3 →
        OwnAppended
          { s.port p with queue := left ++ [⟨q.frame, .delivery c (n + 1), true, (s.port p).nextOrder, false⟩] }
          (t.port p) ∧
        (t.notice .relayUndelivered).flag = (s.notice .relayUndelivered).flag) ∧
      (heardOutcome heard = .nak ∨ ((heardOutcome heard = .busy ∨ heardOutcome heard = .unheard) ∧ 3 ≤ n) →
        OwnAppended { s.port p with queue := left } (t.port p) ∧
        (t.notice .relayUndelivered).flag = true ∧
        (t.notice .relayUndelivered).detail = some (c.setWidth 16 ++ (0 : BitVec 8)))

/-- R168, R171, R189. When the SENDING frame of the room queue is the drive's: the slot is empty afterwards. For a
code of no outbound entry, ACK and NAK flip the drive toggle and BUSY and NONE keep it. For a code of an entry the
drive toggle is kept. ACK flips that entry's toggle, clears its exposed mark and both counts, and makes its sent and
confirmed values the driven value (the frame's value bytes; of a length that is not the function's it is a free value,
log 18) and the next value none: the entry is CONFIRMED with a new refresh timer where its computed value is none or
within the deadband of the driven value, else PENDING without a timer, or already QUEUED. NAK flips the toggle and
clears the exposed mark, and state and values are kept; BUSY and NONE keep the entry: but a PENDING entry may have
been admitted. A deferred reply has been offered with the outcome or holds it; one for the trunk port enters the trunk
queue, with the outcome code as its data, when the trunk is UP with room. Only the state an outcome touches changes.
-/
def Obligations.DriveEndsWithItsOutcome : Prop :=
  ∀ (heard : Option (Byte × Byte)) (q : Queued) (d : Drive) (s : State),
    sendingOf s.room.queue = some q → q.owner = .drive → q.frame.kind = .command → s.drive = some d →
    let o := heardOutcome heard
    ∃ t, exec (.transmissionOutcome .room heard) s = .next t ∧ OutcomeFrame s t ∧ t.drive = none ∧
      (outputOfCode s d.frame.target = none →
        t.driveToggle = if o = .ack ∨ o = .nak then !s.driveToggle else s.driveToggle) ∧
      (∀ e, outputOfCode s d.frame.target = some e → findOutput s e.index = some e →
        t.driveToggle = s.driveToggle ∧ ∃ x, findOutput t e.index = some x ∧
          (o = .ack → x.toggle = !e.toggle ∧ x.exposed = false ∧ x.retries = 0 ∧ x.busies = 0 ∧ x.next = none ∧
            x.computed = e.computed ∧ x.restart = e.restart ∧ ∃ v, x.confirmed = some v ∧
              (d.frame.value.length = (match e.function with
                  | .airflow | .blindHeight | .blindSlat => 2
                  | .thermalMode => 1
                  | _ => 3) →
                v.quantity = (if e.function = .thermalMode then u8 d.frame.value 0 else u16 d.frame.value 0) ∧
                v.fade = (if d.frame.value.length = 3 then u8 d.frame.value 2 else 0)) ∧
              if (∃ c ∈ e.computed, beyondDeadband e.function e.deadband c v = true) then
                (x.state = .pending ∧ x.timer = none ∧ x.sent = some v) ∨ (x.state = .queued ∧ x.sent = e.computed)
              else x.state = .confirmed ∧ x.sent = some v ∧
                x.timer = if e.refresh = 0 then none else some (s.elapsed + e.refresh)) ∧
          (o = .nak → x = { e with toggle := !e.toggle, exposed := false } ∨
            (e.state = .pending ∧ ∃ n, x = OutEntry.admitted n { e with toggle := !e.toggle, exposed := false })) ∧
          (o = .busy ∨ o = .unheard → x = e ∨ (e.state = .pending ∧ ∃ n, x = e.admitted n))) ∧
      (∀ r, s.deferred = some r →
        (t.deferred = none ∨ t.deferred = some { r with outcome := some o }) ∧
        (r.port = .trunk → s.trunk.up = true → s.trunk.queue.length < 16 →
          t.deferred = none ∧ ∃ x ∈ t.trunk.queue, x.owner = .reply ∧
            x.frame = replyFields ⟨.trunk, r.line, r.node, r.priority, false, 0, 0⟩ 26 .ok
              [if o = .ack then 0 else if o = .nak then 1 else if o = .busy then 2 else 3] s))

/-- R117, R162, R171, R181, R188. DEFERRED_REPLY_OFFER: a built deferred reply whose queue admits it becomes the next
frame of that queue and is no longer held. NOTICE_OFFER, with room on the trunk and no deferred reply for it: the
pending notice of lowest code becomes the next frame of the trunk queue and loses its mark. GROUP_REPORT_OFFER, with
no notice pending besides: the pending report of the lowest leader, built from its record as it stands, becomes the
next frame, and the record's mark is cleared. With a place in the room queue, DRIVE_REOFFER of a drive that waits puts
its frame behind the frames held and marks it queued; OUTBOUND_ADMISSION with the outbound table in index order puts
the frame of the eligible entry that comes first (priority 1 before 2, then the lowest index) behind the frames held,
with the computed value, or the sent value when exposed, under its toggle; the entry becomes QUEUED with that value as
its sent value and its timer cancelled. (Where the entry holds no such value the frame carries a free value, log 33.)
Further own frames may follow behind; nothing but offers happens. -/
def Obligations.OffersGoInTheirOrder : Prop :=
  ∀ s : State,
    (∀ d o, s.deferred = some d → d.outcome = some o → admits d.port false s = true →
      ∃ t fs, exec .deferredReplyOffer s = .next t ∧ Offered (clearPins s) t ∧ t.deferred = none ∧
        (t.port d.port).queue = (s.port d.port).queue ++
          ⟨replyFields ⟨d.port, d.line, d.node, d.priority, false, 0, 0⟩ 26 .ok [driveOutcomeCode o] s, .reply, false,
            (s.port d.port).nextOrder, false⟩ :: fs) ∧
    (admits .trunk false s = true → (∀ d ∈ s.deferred, d.port = .trunk → d.outcome = none) →
      (∀ k, (s.notice k).pending = true →
        (∀ j : NoticeKind, j.code < k.code → (s.notice j).pending = false) →
        ∃ t fs, exec .noticeOffer s = .next t ∧ Offered (clearPins s) t ∧ (t.notice k).pending = false ∧
          t.trunk.queue = s.trunk.queue ++
            ⟨noticeFrame s k, .notice k, false, s.trunk.nextOrder, false⟩ :: fs) ∧
      ((∀ k, (s.notice k).pending = false) →
        ∀ (l : Zone) (g : Group), s.groups[l] = some g → g.reportPending = true →
          (∀ m : Zone, m < l → ∀ h ∈ s.groups[m], h.reportPending = false) →
          ∃ t fs, exec .groupReportOffer s = .next t ∧ Offered (clearPins s) t ∧
            t.groups[l] = some { g with reportPending := false } ∧
            t.trunk.queue = s.trunk.queue ++
              ⟨reportFrame s l g, .report l, false, s.trunk.nextOrder, false⟩ :: fs)) ∧
    (admits .room false s = true →
      (∀ d, s.drive = some d → d.queued = false →
        ∃ t fs, exec .driveReoffer s = .next t ∧ Offered (clearPins s) t ∧ t.drive = some { d with queued := true } ∧
          t.room.queue = s.room.queue ++ ⟨d.frame, .drive, false, s.room.nextOrder, false⟩ :: fs) ∧
      (OutputsSound s → ∀ e ∈ s.outputs, eligible s e = true →
        (∀ x ∈ s.outputs, eligible s x = true → x = e ∨ e.function.priority.toNat < x.function.priority.toNat ∨
          (e.function.priority = x.function.priority ∧ e.index < x.index)) →
        ∃ t fs v, exec .outboundAdmission s = .next t ∧ Offered (clearPins s) t ∧
          (∀ w, (if e.exposed then e.sent else e.computed) = some w → v = w) ∧
          findOutput t e.index = some { e with state := .queued, timer := none, sent := some v } ∧
          t.room.queue = s.room.queue ++ ⟨outputFrame s e v, .output e.index, false, s.room.nextOrder, false⟩ :: fs))

/-- R81, R91, R92, R93, R94, R95, R96, R97, R100, R105, R113, R114, R122, R144. A tick with no minute boundary left
due: an UNSET clock stays UNSET; a SET clock whose second is below 59 rises by one second; one whose second is 59
stays, and the minute boundary becomes due (that it is then taken by its own command, or before the next tick, is the
model's choice, log 3). MINUTE_BOUNDARY, where due at second 59, sets the second to 0 with minute and weekday carried
over, and every zone's booking view is what the ACTIVE page shows at the new minute; every group's booking list is its
members' active bookings; the mismatch set is formed anew, and an id that enters it raises PARTITION_MISMATCH. Where a
booking has started for a group under AUTO, it is in EXPECTED with a no-show deadline at this second plus the limit,
none where attended, or stays OCCUPIED or in HOLDOVER and is attended; a started booking clears the manual scene,
where the booking lists were their members' active bookings before it too (an invariant of every step); where one has
ended and none is active, attended is no and EXPECTED and NO_SHOW end in PREPARE with an upcoming booking, else
VACANT. With the room sound, a group that keeps state and head count keeps its members' air records. Elapsed second,
points, pages and parameters are untouched. Where it is not due it only makes the offers still open (the model's
choice, log 4). -/
def Obligations.WingTimeAdvancesBySeconds : Prop :=
  ∀ s : State,
    (s.due.minute = false →
      ∃ t, exec .elapsedSecondTick s = .next t ∧ t.elapsed = s.elapsed + 1 ∧
        (s.clock = none → t.clock = none) ∧
        ∀ w, s.clock = some w →
          (w.second < 59 → t.clock = some { w with second := w.second + 1 }) ∧
          (w.second = 59 → t.clock = some w ∧ t.due.minute = true)) ∧
    (∀ w, s.due.minute = true → s.clock = some w → w.second = 59 → w.minute ≤ 1439 → w.weekday ≤ 6 →
      ∃ t, exec .minuteBoundary s = .next t ∧
        t.clock = some (if w.minute < 1439 then ⟨w.weekday, w.minute + 1, 0⟩
          else ⟨if w.weekday = 6 then 0 else w.weekday + 1, 0, 0⟩) ∧
        (∀ z : Zone, t.views[z] = viewOf t z ∧ ViewShows t z t.views[z]) ∧ t.due.minute = false ∧
        RoomFrame { s with clock := t.clock } t ∧ MismatchAfter s.mismatch (s.notice .partitionMismatch) t ∧
        ∀ (l : Zone) (g : Group), s.groups[l] = some g →
          ∃ h, t.groups[l] = some h ∧ h.members = g.members ∧ h.effOverride = g.effOverride ∧
            (∀ z ∈ g.members, h.booking.list[z] = t.views[z].active) ∧
            (RoomSound s → h.state = g.state → h.headCount = g.headCount → ∀ z ∈ g.members, t.air[z] = s.air[z]) ∧
            (BookingListsSound s →
              (∃ z ∈ g.members, t.views[z].active ≠ none ∧ ∀ y ∈ g.members, s.views[y].active ≠ t.views[z].active) →
              h.manualScene = none) ∧
            (g.effOverride = .auto →
              ((∃ z ∈ g.members, t.views[z].active ≠ none ∧
                  ∀ y ∈ g.members, s.views[y].active ≠ t.views[z].active) →
                (g.state = .occupied ∨ g.state = .holdover → h.state = g.state ∧ h.attended = true) ∧
                (g.state ≠ .occupied → g.state ≠ .holdover → h.state = .expected ∧ h.headCount = 0 ∧
                  h.noShowDeadline = if h.attended then none else some (s.elapsed + s.params.noShowLimit))) ∧
              ((∃ z ∈ g.members, s.views[z].active ≠ none) → (∀ z ∈ g.members, t.views[z].active = none) →
                h.attended = false ∧
                (g.state = .occupied ∨ g.state = .holdover → h.state = g.state) ∧
                (g.state = .expected ∨ g.state = .noShow →
                  h.state = if h.hasUpcoming then .prepare else .vacant)))) ∧
    (s.due.minute = false → EndsIn .minuteBoundary s (clearPins s))

/-- R49, R85, R180. Where an entry's deadline has been reached, SILENCE_EXPIRY of its code makes it STALE with its
deadline removed and every other field kept; POINT_STALE is set with the code as its detail; for a CLOCK entry
CLOCK_STALE is set with the same detail and the free-running mark is set, for any other it is kept. No other entry, no
zone record, page, parameter, clock or mode changes. Before the deadline the command only makes the offers still open
(log 4). -/
def Obligations.SilenceMakesAPointStale : Prop :=
  ∀ (c : PointCode) (e : PointEntry) (s : State), findPoint s c = some e →
    (∀ d, e.deadline = some d → d ≤ s.elapsed →
      ∃ t, exec (.silenceExpiry c) s = .next t ∧
        findPoint t c = some { e with supervision := .stale, deadline := none } ∧
        (∀ c', c' ≠ c → findPoint t c' = findPoint s c') ∧
        (t.notice .pointStale).flag = true ∧ (t.notice .pointStale).detail = some (c.setWidth 16 ++ (0 : BitVec 8)) ∧
        (e.role = some .clock → (t.notice .clockStale).flag = true ∧
          (t.notice .clockStale).detail = some (c.setWidth 16 ++ (0 : BitVec 8)) ∧ t.freeRunning = true) ∧
        (e.role ≠ some .clock → t.freeRunning = s.freeRunning) ∧
        RoomFrame { s with points := t.points, freeRunning := t.freeRunning } t) ∧
    ((∀ d, e.deadline = some d → s.elapsed < d) → EndsIn (.silenceExpiry c) s (clearPins s))

/-- R80, R81, R99, R103, R104, R106, R108, R111, R121, R122, R136, R148. With the room sound and the outbound table in
index order. ELAPSED_SECOND_TICK first takes what the second before has left due: it answers what it answers after the
commands of all due events, one after the other in the order of log 3. In the state v they leave nothing is due. From
v, the new second is one more; an UNSET clock stays, a second of wing time below 59 rises by one, and at 59 the clock
stays and the minute boundary is due. Due in the new second are, of the present zones and of no other: at multiples of
30 the periodic evaluation of each, at multiples of 10 the light tick of each, and the window dwell of each whose
opened-at is 120 s ago. A group in whose tick an expiry of the opcode table is reached keeps its record, and the tick
is due for every member; so is that of an OCCUPIED group which an EXAM booking holds while the minute boundary is due.
In every other group whose effective override is its members', the tick is taken: where it is OCCUPIED under AUTO and
has no last presence, or its seat-count sum is above 0, last presence becomes the new second (R103); otherwise the
record stays. Points, pages, parameters, mode and ports stay. (The due marks and the order are the model's, log 3.) -/
def Obligations.TickTakesWhatIsLeftAndMarksItsSecond : Prop :=
  ∀ s : State, RoomSound s → OutputsSound s →
    let v := afterAll (leftCommands s) s
    let now := s.elapsed + 1
    let held := fun (g : Group) => g.effOverride = .auto ∧ g.state = .occupied ∧ examHolds v g = true ∧
      ∃ w ∈ v.clock, w.second = 59
    ∃ t, exec .elapsedSecondTick s = .next t ∧ exec .elapsedSecondTick v = .next t ∧ t.elapsed = now ∧
      v.elapsed = s.elapsed ∧ v.due.minute = false ∧
      (∀ z : Zone, v.due.periodic[z] = false ∧ v.due.dwell[z] = false ∧ v.due.lightTick[z] = false ∧
        (present s z = true → v.due.groupTick[z] = false)) ∧
      RoomFrame { v with elapsed := now, clock := t.clock } t ∧
      (v.clock = none → t.clock = none ∧ t.due.minute = false) ∧
      (∀ w, v.clock = some w →
        (w.second < 59 → t.clock = some { w with second := w.second + 1 } ∧ t.due.minute = false) ∧
        (w.second = 59 → t.clock = some w ∧ t.due.minute = true)) ∧
      (∀ z : Zone,
        (t.due.periodic[z] = true ↔ present s z = true ∧ now % 30 = 0) ∧
        (t.due.lightTick[z] = true ↔ present s z = true ∧ now % 10 = 0) ∧
        (t.due.dwell[z] = true ↔ present s z = true ∧ ∃ a ∈ v.evidence[z].windowOpenedAt, a + 120 = now) ∧
        (t.due.groupTick[z] = true → present s z = true)) ∧
      ∀ (l : Zone) (g : Group), v.groups[l] = some g →
        (ExpiresAt v g now ∨ held g →
          t.groups[l].map Group.unmarked = some g.unmarked ∧ ∀ z ∈ g.members, t.due.groupTick[z] = true) ∧
        (¬(ExpiresAt v g now ∨ held g) →
          (∀ z ∈ g.members, t.due.groupTick[z] = false) ∧
          (g.effOverride = effectiveOverride v g.members → ∃ h, t.groups[l] = some h ∧
            h.unmarked = { g.unmarked with
              overrideExpiry := effectiveExpiry v g.members
              lastPresence :=
                if g.effOverride = .auto ∧ g.state = .occupied ∧
                    (g.lastPresence = none ∨ 0 < (seatSum v g.members).getD 0) then some now
                else g.lastPresence }))

/-- R67, R99, R100, R103, R104, R106, R108, R110, R111, R180. For a group whose tick of this second is due (the due
mark is the model's, log 3) and whose members all have override AUTO with no expiry reached. HOLDOVER_EXPIRY: from
HOLDOVER at its deadline to EXPECTED when booked (no-show deadline set unless attended), else PREPARE with an upcoming
booking, else VACANT; head count 0, no holdover deadline. NO_SHOW_EXPIRY: from EXPECTED at its deadline to NO_SHOW,
with the notice NO_SHOW carrying the reported booking and the leader. QUIET_TIME_EXPIRY: from OCCUPIED with no seat
counted and no EXAM booking, when the quiet time (counted when the seat sum is 0) has passed since last presence, to
HOLDOVER with its deadline by whether it is booked, the head count held. Members stay; the mark of the tick is taken
from every member and from no other zone. Only state of the room changes. For a group whose tick of this second is due
(the due mark is the model's, log 3), with a member's override expiry reached, OVERRIDE_EXPIRY makes that override
AUTO with no expiry and leaves every override that is not reached or of no member; the group's effective override is
the one its members then form. A group released from FORCE_OCCUPIED to AUTO is in HOLDOVER; one released from
FORCE_VACANT is in EXPECTED when booked and in PREPARE when it has only an upcoming booking (all for parameters above
0, as their ranges give). Only state of the room changes. -/
def Obligations.GroupExpiriesActAtTheTick : Prop :=
  (∀ (z l : Zone) (g : Group) (s : State), groupOf s z = some (l, g) → s.due.groupTick[z] = true →
    g.effOverride = .auto → effectiveOverride s g.members = .auto → overrideReached s g = false →
    let ticked := fun (t : State) =>
      ∀ y : Zone, t.due.groupTick[y] = if y ∈ g.members then false else s.due.groupTick[y]
    (∀ d, g.state = .holdover → g.holdoverDeadline = some d → d ≤ s.elapsed →
      ∃ t h, exec (.holdoverExpiry z) s = .next t ∧ RoomFrame s t ∧ t.groups[l] = some h ∧ h.members = g.members ∧
        h.state = (if g.booked then .expected else if g.hasUpcoming then .prepare else .vacant) ∧
        h.holdoverDeadline = none ∧ h.headCount = 0 ∧ h.attended = g.attended ∧
        h.noShowDeadline =
          (if g.booked && !g.attended then some (s.elapsed + s.params.noShowLimit) else none) ∧
        ticked t) ∧
    (∀ d, g.state = .expected → g.noShowDeadline = some d → d ≤ s.elapsed →
      ∃ t h, exec (.noShowExpiry z) s = .next t ∧ RoomFrame s t ∧ t.groups[l] = some h ∧ h.members = g.members ∧
        h.state = .noShow ∧ h.noShowDeadline = none ∧ h.headCount = 0 ∧ h.pendingSince = g.pendingSince ∧
        (t.notice .noShow).flag = true ∧
        (t.notice .noShow).detail = some (BitVec.ofNat 16 g.reportedBooking ++ BitVec.ofNat 8 l.val) ∧
        ticked t) ∧
    (∀ d, g.state = .occupied → g.lastPresence = some d → (seatSum s g.members).getD 0 = 0 →
      examHolds s g = false →
      d + (if seatSum s g.members = some 0 then s.params.quietTimeCounted else s.params.quietTime) ≤ s.elapsed →
      ∃ t h, exec (.quietTimeExpiry z) s = .next t ∧ RoomFrame s t ∧ t.groups[l] = some h ∧ h.members = g.members ∧
        h.state = .holdover ∧ h.headCount = g.headCount ∧ h.pendingSince = none ∧ h.noShowDeadline = none ∧
        h.holdoverDeadline = some (s.elapsed +
          (if g.booked then s.params.holdoverBooked else s.params.holdoverUnbooked)) ∧
        ticked t)) ∧
  ∀ (z l y : Zone) (g : Group) (d : Nat) (s : State), groupOf s z = some (l, g) → s.due.groupTick[z] = true →
    y ∈ g.members → s.overrides[y].expiry = some d → d ≤ s.elapsed → 0 < s.params.holdoverBooked →
    0 < s.params.holdoverUnbooked → 0 < s.params.noShowLimit →
    ∃ t h, exec (.overrideExpiry z) s = .next t ∧ RoomFrame s t ∧ t.overrides[y] = ⟨.auto, none⟩ ∧
      (∀ x : Zone, x ∉ g.members ∨ reached s.overrides[x].expiry s.elapsed = false →
        t.overrides[x] = s.overrides[x]) ∧
      t.groups[l] = some h ∧ h.members = g.members ∧ h.effOverride = effectiveOverride t g.members ∧
      (g.effOverride = .forceOccupied → h.effOverride = .auto → h.state = .holdover) ∧
      (g.effOverride = .forceVacant → h.effOverride = .auto →
        (g.booked = true → h.state = .expected) ∧
        (g.booked = false → g.hasUpcoming = true → h.state = .prepare))

/-- R121, R122, R125, R129, R133, R135, R136. For a present zone in a group: PERIODIC_EVALUATION, where due, writes
the zone's air record by the stages of a periodic evaluation, hands its airflow command and then its thermal mode to
the zone's entries, raises AIR_LIMITED with the zone where LIMITED goes from clear to set, and but for offers still
open does nothing else. WINDOW_DWELL, where due with the window open since exactly 120 s, does the same by the stages
of a prompt evaluation, in which the target is D_min_unocc, the thermal mode PROTECT, and an OCCUPIED or HOLDOVER
group's integrator and LIMITED flag are held. Each takes its due mark (the model's, log 3); where not due, the command
only makes the offers still open (the model's choice, log 4). -/
def Obligations.AirEvaluationsActOnTheirZone : Prop :=
  ∀ (z l : Zone) (c : ZoneConfig) (g : Group) (s : State), s.zones[z] = some c → groupOf s z = some (l, g) →
    let evaluated := fun (r : AirRecord) (command : Nat) (mode : Thermal) (due : Due) =>
      let u := handTo z .thermalMode
        ⟨match mode with
          | .comfort => 0
          | .standby => 1
          | .economy => 2
          | .protect => 3, 0⟩
        (handTo z .airflow ⟨command, 0⟩ { clearPins s with air := s.air.set z r, due := due })
      if s.air[z].limited = false ∧ r.limited = true then raise .airLimited (BitVec.ofNat 8 z.val ++ (0 : BitVec 16)) u
      else u
    (s.due.periodic[z] = true →
      ∃ command mode,
        (airStages s true z c g).command = some command ∧ (airStages s true z c g).thermal = some mode ∧
        EndsIn (.periodicEvaluation z) s (evaluated (airStages s true z c g) command mode
          { s.due with periodic := s.due.periodic.set z false })) ∧
    (∀ a, s.due.dwell[z] = true → s.evidence[z].windowOpenedAt = some a → a + 120 = s.elapsed →
      windowOpen s z = true →
      let r := airStages s false z c g
      r.dTarget = some c.dMinUnocc ∧ r.thermal = some .protect ∧
      (g.state = .occupied ∨ g.state = .holdover →
        r.integrator = s.air[z].integrator ∧ r.limited = s.air[z].limited) ∧
      ∃ command, r.command = some command ∧
        EndsIn (.windowDwell z) s (evaluated r command .protect { s.due with dwell := s.due.dwell.set z false })) ∧
    (s.due.periodic[z] = false → EndsIn (.periodicEvaluation z) s (clearPins s)) ∧
    (s.due.dwell[z] = false → EndsIn (.windowDwell z) s (clearPins s))

/-- R123, R126, R127, R128, R129, R130, R131, R132, R133, R134. For a zone record in range: the base demand is the
share times q_p plus the area part; the effective error is 0 without a CO2 aggregate, and otherwise the aggregate (the
maximum of the zone's LIVE contributors) minus C_set, clamped to -2000 to 2000, or 0 when its magnitude is at most 50.
In OCCUPIED and HOLDOVER with the window closed the integrator is the old one, plus k_i times the effective error at a
periodic evaluation, clamped to the bounds of R128, and LIMITED says whether the clamp changed it; with the window
open, and in EXPECTED and PREPARE, both are held; in VACANT and NO_SHOW they are 0 and clear. The target is
D_min_unocc with the window open for 120 s; else by the state: the base demand plus the trim, or the base demand alone
in EXPECTED, between D_min_occ and D_max; the purge share of D_max, at most D_max, in PREPARE; D_min_unocc in VACANT
and NO_SHOW. D_out moves toward the target without passing it, by exactly what the allowance pays, and by no more than
the allowance the evaluation started with, at most R_step; the command is D_out in per-mille of D_max, at most 1000
for a D_out within D_max. The thermal mode is PROTECT with the window open for 120 s; else by the state, with ECONOMY
in VACANT where the clock is SET and no member has a next start. -/
def Obligations.AirEvaluationStaysInItsBounds : Prop :=
  ∀ (s : State) (periodic : Bool) (z : Zone) (c : ZoneConfig) (g : Group), c.inRange = true →
    let r := airStages s periodic z c g
    let old := s.air[z]
    let n := shareOf s g.headCount g.members z
    let start := if periodic then s.params.rStep else min old.allowance s.params.rStep
    let applies := (g.state = .occupied ∨ g.state = .holdover) ∧ windowOpen s z = false
    let raw := if periodic then old.integrator + s.params.kI * r.eEff else old.integrator
    let trim : Int := (if r.integrator < 0 then -1 else 1) * ((2 * r.integrator.natAbs + 100) / 200 : Nat)
    let dwelled := windowOpen s z = true ∧ ∃ a ∈ s.evidence[z].windowOpenedAt, a + 120 ≤ s.elapsed
    r.dBase = n * s.params.qPerson + (2 * (c.area * s.params.qArea) + 10) / 20 ∧
    (contributions s .co2 z = [] → r.eEff = 0) ∧
    (∀ v, v ∈ contributions s .co2 z → (∀ w ∈ contributions s .co2 z, w ≤ v) →
      let e : Int := max (-2000) (min 2000 ((v : Int) - s.params.cSet))
      r.eEff = if -50 ≤ e ∧ e ≤ 50 then 0 else e) ∧
    (applies →
      r.integrator = max (((c.dMinOcc : Int) - r.dBase) * 100) (min (((c.dMax : Int) - r.dBase) * 100) raw) ∧
      (r.limited = true ↔ r.integrator ≠ raw)) ∧
    (((g.state = .occupied ∨ g.state = .holdover) ∧ windowOpen s z = true) ∨ g.state = .expected ∨ g.state = .prepare →
      r.integrator = old.integrator ∧ r.limited = old.limited) ∧
    ((g.state = .vacant ∨ g.state = .noShow) → r.integrator = 0 ∧ r.limited = false) ∧
    (∃ target : Nat, r.dTarget = some target ∧ target ≤ c.dMax ∧
      (dwelled → target = c.dMinUnocc) ∧
      (¬dwelled → match g.state with
        | .occupied | .holdover => (target : Int) = max (c.dMinOcc : Int) (min (c.dMax : Int) (r.dBase + trim))
        | .expected => target = max c.dMinOcc (min c.dMax r.dBase)
        | .prepare => target = min c.dMax ((2 * (c.dMax * s.params.purge) + 100) / 200)
        | .vacant | .noShow => target = c.dMinUnocc) ∧
      (old.dOut ≤ target → old.dOut ≤ r.dOut ∧ r.dOut ≤ target ∧ (r.dOut - old.dOut) + r.allowance = start) ∧
      (target ≤ old.dOut → target ≤ r.dOut ∧ r.dOut ≤ old.dOut ∧ (old.dOut - r.dOut) + r.allowance = start) ∧
      start ≤ s.params.rStep ∧
      (r.dOut = target ∨ r.allowance = 0) ∧
      ∃ command, r.command = some command ∧
        command = (2 * (r.dOut * 1000) + c.dMax) / (2 * c.dMax) ∧ (old.dOut ≤ c.dMax → command ≤ 1000)) ∧
    (dwelled → r.thermal = some .protect) ∧
    (¬dwelled → r.thermal = some (match g.state with
      | .noShow => .standby
      | .vacant =>
        if s.clock = none ∨ ∃ y ∈ g.members, s.views[y].toNext ≠ none then .standby else .economy
      | _ => .comfort))

/-- R147, R148, R149, R150, R151, R152. LIGHT_TICK of a present zone, where due (the mark is the model's, log 3),
first forms the zone's blind target from its scene and the sun state (none without a facade) and makes the pending
send where the spacing has ended and no open window inhibits it. Then, where the group is OCCUPIED or in HOLDOVER with
a lux aggregate and fade and blinds are at rest, it makes the daylight step, facade or not: each channel in DAYLIGHT
that is not within 5 % of its target moves by the truncated share of the error, clamped to 80 per-mille, stays within
its minimum and 1000, and where its level changes that is handed to its light entries with a fade of 10 s. SPACING_END
of a present zone, at the second its spacing ends, with a target that differs from the position sent and is not
inhibited by an open window, makes the send: height and slat are handed, the target is the position sent, this second
the last send, and the motion end follows R152. But for offers still open nothing else changes. -/
def Obligations.LightTickAndSpacingEndAct : Prop :=
  ∀ (z : Zone) (c : ZoneConfig) (s : State), s.zones[z] = some c →
    (s.due.lightTick[z] = true →
      let u := withBlindGoal z c { clearPins s with due := { s.due with lightTick := s.due.lightTick.set z false } }
      let rests := fun (x : Option Nat) => ∀ a ∈ x, a ≤ s.elapsed
      ((¬∃ l g lux sel, groupOf s z = some (l, g) ∧ (g.state = .occupied ∨ g.state = .holdover) ∧
          luxOf s z = some lux ∧ s.light[z].scene = some sel ∧ rests u.light[z].fadeEnd ∧ rests u.light[z].motionEnd) →
        EndsIn (.lightTick z) s u) ∧
      ∀ l g lux sel, groupOf s z = some (l, g) → g.state = .occupied ∨ g.state = .holdover →
        luxOf s z = some lux → s.light[z].scene = some sel → rests u.light[z].fadeEnd → rests u.light[z].motionEnd →
        let level := fun (ch : Fin 4) => match (content s sel).channels[ch] with
          | .fixed _ => s.light[z].levels[ch]
          | .daylight target minimum _ =>
            if s.light[z].modes[ch] = false ∨ ((target : Int) - lux).natAbs * 20 ≤ target then s.light[z].levels[ch]
            else
              let share : Nat := if ch = 0 then s.params.shareWindow else if ch = 1 then s.params.shareMiddle
                else if ch = 2 then s.params.shareCorridor else 0
              let step : Int := Int.tdiv (((target : Int) - lux) * s.params.daylightGain * share) 100000
              (clampInt minimum 1000 (s.light[z].levels[ch] + clampInt (-80) 80 step)).toNat
        let hand := fun (fn : OutFunction) (ch : Fin 4) (v : State) =>
          if level ch = s.light[z].levels[ch] then v else handTo z fn ⟨level ch, 10⟩ v
        EndsIn (.lightTick z) s (hand .lightBoard 3 (hand .lightCorridor 2 (hand .lightMiddle 1 (hand .lightWindow 0
          { u with light := u.light.set z { u.light[z] with levels := #v[level 0, level 1, level 2, level 3] } }))))) ∧
    (∀ a p, s.light[z].lastSend = some a → a + s.params.blindSpacing = s.elapsed →
      s.light[z].blindTarget = some p → s.light[z].blindSent ≠ some p →
      (windowOpen s z = true → p.height ≤ (s.light[z].blindSent.map (·.height)).getD 0) →
      EndsIn (.spacingEnd z) s (withBlindSend z p (clearPins s)))

/-- R12, R138, R146, R147, R149, R150, R151, R152, R157, R161. A value handed to a zone's function, with the outbound
table in index order, becomes the computed value of each entry of that zone and function, and by its state: an IDLE
entry becomes PENDING; a QUEUED one has the value as its sent value where its frame is WAITING and it is not exposed,
else as its next value; an exposed BACKOFF or UNANSWERED one as its next value; a CONFIRMED one becomes PENDING where
the value differs from the confirmed one beyond the deadband (at all for THERMAL_MODE), a REFUSED one where its
compared quantity differs from the sent one; PENDING without a timer. Every other field and entry is as it was. The
WAITING frame of such a QUEUED, not exposed entry carries the new value bytes, in its place, and no other frame
changes. A scene change of a present zone takes modes and start levels from the scene's content, hands all four
channels with its fade, and forms the blind target with the send that follows. -/
def Obligations.HandedValuesReachTheirEntries : Prop :=
  (∀ (z : Zone) (fn : OutFunction) (v : OutValue) (s : State), OutputsSound s →
    let t := handTo z fn v s
    let waiting := fun (e : OutEntry) => s.room.queue.any fun q => q.owner == .output e.index && !q.sending
    let differs := fun (e : OutEntry) (x : OutValue) =>
      if fn = .thermalMode then decide (v.quantity ≠ x.quantity)
      else decide (e.deadband < ((v.quantity : Int) - x.quantity).natAbs)
    t.outputs.length = s.outputs.length ∧
    (∀ e ∈ s.outputs, e.zone = z → e.function = fn → findOutput t e.index = some (match e.state with
      | .idle => { e with computed := some v, state := .pending, timer := none }
      | .pending => { e with computed := some v }
      | .queued =>
        if waiting e = true ∧ e.exposed = false then { e with computed := some v, sent := some v }
        else { e with computed := some v, next := some v }
      | .backoff | .unanswered =>
        if e.exposed = true then { e with computed := some v, next := some v } else { e with computed := some v }
      | .confirmed =>
        if ∀ x ∈ e.confirmed, differs e x = true then { e with computed := some v, state := .pending, timer := none }
        else { e with computed := some v }
      | .refused =>
        if ∀ x ∈ e.sent, v.quantity ≠ x.quantity then { e with computed := some v, state := .pending, timer := none }
        else { e with computed := some v })) ∧
    (∀ e ∈ s.outputs, e.zone ≠ z ∨ e.function ≠ fn → findOutput t e.index = some e) ∧
    t = { s with
      outputs := t.outputs
      room := { s.room with queue := s.room.queue.map fun q =>
        if q.sending = false ∧ ∃ e ∈ s.outputs, q.owner = .output e.index ∧ e.zone = z ∧ e.function = fn ∧
            e.state = .queued ∧ e.exposed = false then
          { q with frame := { q.frame with value := match fn with
            | .thermalMode => [byteOf v.quantity]
            | .airflow | .blindHeight | .blindSlat => be16 v.quantity
            | _ => be16 v.quantity ++ [byteOf v.fade] } }
        else q } }) ∧
  ∀ (z : Zone) (c : ZoneConfig) (sel : Selection) (s : State), s.zones[z] = some c →
    sceneChange z sel s = withScene z c sel s

/-- R162, R166. With the outbound table in index order, where an entry's timer has been reached: BACKOFF_END of a
BACKOFF entry and REFRESH of a CONFIRMED entry make it PENDING without a timer and with every other field kept;
REATTEMPT of an UNANSWERED entry does so with retry and busy counts 0 (the exposed mark kept). Where it is then
eligible the arbiter may have admitted it. In another state or before the timer the commands only make the offers
still open (log 4). Only the outbound table and offers are touched. -/
def Obligations.EntryTimersMakeItPending : Prop :=
  ∀ (i : OutIndex) (e : OutEntry) (s : State), OutputsSound s → findOutput s i = some e →
    (∀ (c : Instr) (x : OutEntry) (d : Nat), e.timer = some d → d ≤ s.elapsed →
      (c = .backoffEnd i ∧ e.state = .backoff ∧ x = { e with state := .pending, timer := none }) ∨
      (c = .refresh i ∧ e.state = .confirmed ∧ x = { e with state := .pending, timer := none }) ∨
      (c = .reattempt i ∧ e.state = .unanswered ∧
        x = { e with state := .pending, timer := none, retries := 0, busies := 0 }) →
      ∃ t, exec c s = .next t ∧ Offered { clearPins s with outputs := (updateOutput i (fun _ => x) s).outputs } t ∧
        (findOutput t i = some x ∨ (eligible s x = true ∧ ∃ n, findOutput t i = some (x.admitted n)))) ∧
    (¬(e.state = .backoff ∧ reached e.timer s.elapsed = true) → EndsIn (.backoffEnd i) s (clearPins s)) ∧
    (¬(e.state = .confirmed ∧ reached e.timer s.elapsed = true) → EndsIn (.refresh i) s (clearPins s)) ∧
    (¬(e.state = .unanswered ∧ reached e.timer s.elapsed = true) → EndsIn (.reattempt i) s (clearPins s))

/-- R174, R187. An accepted request with no argument ends in what arrival and acceptance alone leave (u) with the
reply in the queue of the request's port, but for offers still open. DESCRIBE's data are vendor 7141, part 4200,
revision 3 and the capacities 384, 64, 64, 16, 8, 5, 32, 24. READ_STATUS's data are mode, clock bits, wing time (all
255 while UNSET), ACTIVE page, state and both counts of the trunk and of the room port, the elapsed second (below
2^32), and the five hit counts. READ_CAPTURE: where u is what its arrival and acceptance leave (its own frame
captured, where a unit takes it), the reply's data are the number of records returned, the overflow count as u has it,
and per record the tag byte (direction, side, unit), frame bytes 0 to 5, the 3-byte second of the week (all bits 1 for
UNSET) and the first 8 value bytes filled up with zero bytes. Those records leave the queue and the overflow count
becomes 0; but for offers still open, nothing else changes. The data are 2, 20 or 38 bytes long where no record holds
more than 8 value bytes. -/
def Obligations.IdentityStatusAndCapturesAreReadOut : Prop :=
  (∀ (rq : Requester) (s : State),
    (Accepted rq [1] s → EndsIn (.describe rq []) s
      (withReply rq 1 .ok [27, 229, 16, 104, 3, 1, 128, 64, 64, 16, 8, 5, 32, 24] (acceptedBy rq [1] s))) ∧
    (Accepted rq [2] s → s.elapsed < 4294967296 →
      let u := acceptedBy rq [2] s
      EndsIn (.readStatus rq []) s
      (withReply rq 2 .ok
        (([if u.hold then 1 else 0,
          (if s.clock = none then 0 else 1) + (if s.freeRunning then 2 else 0)] : List Byte)
          ++ (match s.clock with
            | none => ([255, 255, 255, 255] : List Byte)
            | some w => byteOf w.weekday :: (be16 w.minute ++ [byteOf w.second]))
          ++ ([if s.activePage = .a then 0 else 1, if s.trunk.up then 1 else 0] : List Byte)
          ++ be16 s.trunk.checkErrors ++ be16 s.trunk.relayDropped ++ ([if s.room.up then 1 else 0] : List Byte)
          ++ be16 s.room.checkErrors ++ be16 s.room.relayDropped
          ++ be32 s.elapsed
          ++ be16 u.matchUnits[0].hits ++ be16 u.matchUnits[1].hits ++ be16 u.matchUnits[2].hits
          ++ be16 u.matchUnits[3].hits ++ be16 u.matchUnits[4].hits) u))) ∧
  ∀ (rq : Requester) (s : State), Accepted rq [23] s →
    let u := acceptedBy rq [23] s
    let record := fun (r : CaptureRecord) =>
      [byteOf ((if r.transmitted then 128 else 0) + (if r.port = .trunk then 64 else 0) + r.unit)]
        ++ r.frame.header r.length
        ++ (match r.time with
          | some w => be24 ((w.weekday * 1440 + w.minute) * 60 + w.second)
          | none => ([255, 255, 255] : List Byte))
        ++ r.frame.value ++ List.replicate (8 - r.frame.value.length) 0
    (∀ r ∈ u.captures, r.frame.value.length ≤ 8) →
    let taken := u.captures.take 2
    let data := [byteOf taken.length, byteOf u.overflow] ++ taken.flatMap record
    EndsIn (.readCapture rq []) s (withReply rq 23 .ok data { u with captures := u.captures.drop 2, overflow := 0 }) ∧
    (data.length = 2 ∨ data.length = 20 ∨ data.length = 38)

/-- R21, R89, R172, R173, R176, R177. An accepted request of its layout's length and ranges ends in what arrival and
acceptance alone leave with the reply queued, but for offers still open: the named entry's, zone part's, output's,
booking's, parameter's or the notice set's bytes with OK, NOT_FOUND without data where there is none, READ_BOOKING
names page A with 0 and B with 1; its form 0 names the booking of the id, none for id 0, and its form 1 the booking
that follows the one of the id in the page's order, the first of the page for id 0; and for an unlisted code or an
empty value MALFORMED under the code received. -/
def Obligations.ReadsReplyAndChangeNothing : Prop :=
  ∀ (rq : Requester) (a : List Byte) (s : State),
    let answers := fun (c : Instr) (value : List Byte) (r : Result) (data : List Byte) =>
      EndsIn c s (withReply rq (valueCode value) r data (acceptedBy rq value s))
    (Accepted rq (5 :: a) s → a.length = 3 → u16 a 0 ≤ 4095 → u8 a 2 ≤ 1 →
      match (if u8 a 2 = 0 then s.points.find? fun e => e.code.toNat = u16 a 0
        else s.points.find? fun e => u16 a 0 < e.code.toNat) with
      | some e => answers (.readPoint rq a) (5 :: a) .ok e.replyBytes
      | none => answers (.readPoint rq a) (5 :: a) .notFound []) ∧
    (Accepted rq (7 :: a) s → a.length = 2 → u8 a 0 ≤ 3 → u8 a 1 ≤ 4 →
      if u8 a 1 = 0 ∨ present s (zoneAt (u8 a 0)) = true then
        answers (.readZone rq a) (7 :: a) .ok (zonePart s (zoneAt (u8 a 0)) (u8 a 1))
      else answers (.readZone rq a) (7 :: a) .notFound []) ∧
    (Accepted rq (10 :: a) s → a.length = 1 → u8 a 0 ≤ 63 →
      match findOutput s (indexAt (u8 a 0)) with
      | some e => answers (.readOutput rq a) (10 :: a) .ok e.replyBytes
      | none => answers (.readOutput rq a) (10 :: a) .notFound []) ∧
    (Accepted rq (14 :: a) s → a.length = 4 → u8 a 0 ≤ 1 → u8 a 3 ≤ 1 →
      let page := if u8 a 0 = 0 then s.pageA else s.pageB
      let id := u16 a 1
      match (if u8 a 3 = 0 then (if id = 0 then none else page.find? fun b => b.id = id)
        else if id = 0 then page.head?
        else (page.dropWhile fun b => b.id ≠ id).tail.head?) with
      | some b => answers (.readBooking rq a) (14 :: a) .ok b.bytes
      | none => answers (.readBooking rq a) (14 :: a) .notFound []) ∧
    (Accepted rq (18 :: a) s → a.length = 1 →
      match s.params.get (u8 a 0) with
      | some v => answers (.readParameter rq a) (18 :: a) .ok (a ++ be16 v)
      | none => answers (.readParameter rq a) (18 :: a) .notFound []) ∧
    (Accepted rq (20 :: a) s → a = [] →
      answers (.readNotices rq a) (20 :: a) .ok (noticeBytes (acceptedBy rq (20 :: a) s))) ∧
    (Accepted rq a s → unknownWellFormed a = true → answers (.unknownRequest rq a) a .malformed [])

/-- R21, R23, R24, R25, R50, R54, R55, R142. With the point table in order, and u what arrival and acceptance leave.
An accepted LOAD_POINT that passes every test leaves the entry it carries, its runtime afresh, under its code and
every other code's entry as it was, replies OK and keeps the table in order; where the code is new, but for offers
still open, nothing else changes. An accepted DELETE_POINT of a code with an entry removes it, keeps every other entry
and replies OK. Where an entry is replaced or deleted, the value of the partition it names becomes none unless a
remaining PARTITION entry of that partition has a last value, and the irradiance of a SUN entry unless a remaining SUN
entry has one, the sun record then losing its candidates; every other partition value, the irradiance and the sun
record stay. Every refusal ends in u with its reply: LOAD_POINT by the first test that fails of length (MALFORMED),
HOLD (NEEDS_HOLD), consistency (MALFORMED), ranges (OUT_OF_RANGE), the code of an outbound entry or a report point
(DUPLICATE), and a new code in a table of 384 (TABLE_FULL); DELETE_POINT of length (MALFORMED), HOLD (NEEDS_HOLD), a
code above 4095 (OUT_OF_RANGE), and a code without entry (NOT_FOUND). (Which of the two tests an unlisted code of
LOAD_POINT meets is the model's reading, log 14.) -/
def Obligations.PointsAreLoadedAndDeleted : Prop :=
  ∀ (rq : Requester) (a : List Byte) (s : State), PointsSound s →
    let left := fun (old : PointEntry) (t : State) =>
      (∀ k : Fin 3, t.partitions[k] =
        if old.attachment = .partition k ∧
            ¬∃ x ∈ t.points, x.role = some .partition ∧ x.attachment = .partition k ∧ x.last ≠ none then none
        else s.partitions[k]) ∧
      t.irradiance = (if old.role = some .sun ∧ ¬∃ x ∈ t.points, x.role = some .sun ∧ x.last ≠ none then none
        else s.irradiance) ∧
      t.sun = (if t.irradiance ≠ s.irradiance then { s.sun with highSince := none, lowSince := none } else s.sun)
    (Accepted rq (3 :: a) s →
      let u := acceptedBy rq (3 :: a) s
      let answers := fun (r : Result) => EndsIn (.loadPoint rq a) s (withReply rq 3 r [] u)
      let code := (pointOf a).code
      (a.length = 23 → u.hold = true → pointConsistent a = true → pointInRange a = true →
        pointCodeTaken s code = false → ((findPoint s code).isSome = true ∨ s.points.length < 384) →
        (∃ t, exec (.loadPoint rq a) s = .next t ∧ Replied rq 3 .ok [] t ∧ PointsSound t ∧
          findPoint t code = some (pointOf a) ∧ (∀ c, c ≠ code → findPoint t c = findPoint s c) ∧
          t.outputs.map (·.index) = s.outputs.map (·.index) ∧ ∀ old, findPoint s code = some old → left old t) ∧
        (findPoint s code = none →
          EndsIn (.loadPoint rq a) s
            (withReply rq 3 .ok [] { u with points := insertPoint (pointOf a) s.points }))) ∧
      (a.length ≠ 23 → answers .malformed) ∧
      (a.length = 23 → u.hold = false → answers .needsHold) ∧
      (a.length = 23 → u.hold = true → pointConsistent a = false → answers .malformed) ∧
      (a.length = 23 → u.hold = true → pointConsistent a = true → pointInRange a = false → answers .outOfRange) ∧
      (a.length = 23 → u.hold = true → pointConsistent a = true → pointInRange a = true →
        pointCodeTaken s code = true → answers .duplicate) ∧
      (a.length = 23 → u.hold = true → pointConsistent a = true → pointInRange a = true →
        pointCodeTaken s code = false → findPoint s code = none → 384 ≤ s.points.length → answers .tableFull)) ∧
    (Accepted rq (4 :: a) s →
      let u := acceptedBy rq (4 :: a) s
      let answers := fun (r : Result) => EndsIn (.deletePoint rq a) s (withReply rq 4 r [] u)
      (∀ e, a.length = 2 → u.hold = true → u16 a 0 ≤ 4095 → findPoint s (BitVec.ofNat 12 (u16 a 0)) = some e →
        ∃ t, exec (.deletePoint rq a) s = .next t ∧ Replied rq 4 .ok [] t ∧
          findPoint t (BitVec.ofNat 12 (u16 a 0)) = none ∧ left e t ∧
          ∀ c, c ≠ BitVec.ofNat 12 (u16 a 0) → findPoint t c = findPoint s c) ∧
      (a.length ≠ 2 → answers .malformed) ∧
      (a.length = 2 → u.hold = false → answers .needsHold) ∧
      (a.length = 2 → u.hold = true → 4095 < u16 a 0 → answers .outOfRange) ∧
      (a.length = 2 → u.hold = true → u16 a 0 ≤ 4095 → findPoint s (BitVec.ofNat 12 (u16 a 0)) = none →
        answers .notFound))

/-- R57, R61, R62, R63, R66, R68, R97, R98. With u what arrival and acceptance leave. An accepted LOAD_ZONE that
passes every test leaves the record it carries for its zone and every other zone's as it was; every group record is
new, one for each maximal run of present zones joined by open partitions, in VACANT, PREPARE or EXPECTED with head
count 0, no last presence and no manual scene; every override is AUTO; last presence and weak-evidence pending times
are none; the mismatch set is formed anew, and an id that enters it raises PARTITION_MISMATCH; points, pages,
partition values, irradiance and parameters are kept, and the reply is OK. Outside HOLD it ends in u with the reply
NEEDS_HOLD, whatever its length. -/
def Obligations.LoadZoneRebuildsTheRoom : Prop :=
  ∀ (rq : Requester) (a : List Byte) (s : State), Accepted rq (6 :: a) s →
    let u := acceptedBy rq (6 :: a) s
    (u.hold = true → a.length = 12 → zoneInRange s a = true → zoneInUse s a = false →
      ∃ t, exec (.loadZone rq a) s = .next t ∧ Replied rq 6 .ok [] t ∧
        t.zones = s.zones.set (zoneAt (u8 a 0)) (if u8 a 1 = 1 then some (zoneConfigOf a) else none) ∧ GroupsSound t ∧
        (∀ z : Zone, ∀ g ∈ t.groups[z],
          (g.state = .vacant ∨ g.state = .prepare ∨ g.state = .expected) ∧ g.headCount = 0 ∧
          g.lastPresence = none ∧ g.manualScene = none ∧ g.effOverride = .auto) ∧
        (∀ z : Zone, t.overrides[z] = ⟨.auto, none⟩ ∧ t.evidence[z].lastPresence = none ∧
          t.evidence[z].pendingTime = none) ∧
        MismatchAfter s.mismatch (s.notice .partitionMismatch) t ∧ t.points = s.points ∧
        t.pageA = s.pageA ∧ t.pageB = s.pageB ∧ t.partitions = s.partitions ∧
        t.irradiance = s.irradiance ∧ t.params = s.params ∧ t.elapsed = s.elapsed) ∧
    (u.hold = false → EndsIn (.loadZone rq a) s (withReply rq 6 .needsHold [] u))

/-- R157, R158, R159, R160, R161. With u what arrival and acceptance leave. With the outbound table in index order, an
accepted LOAD_OUTPUT that passes every test leaves at its index the static fields it carries with toggle 0, not
exposed, nothing confirmed and counts 0. Where its zone holds no value for its function the entry is IDLE without
values; otherwise that value is its computed value and it is PENDING, or already QUEUED. Entries at other indexes are
kept but for an admission, and the reply is OK. Outside HOLD it ends in u with the reply NEEDS_HOLD, whatever its
length. An accepted DELETE_OUTPUT that names a table index ends, with u what arrival and acceptance leave and but for
offers still open, in: u with the reply NEEDS_HOLD outside HOLD; else NOT_FOUND where the place is empty; else IN_USE
where the entry is QUEUED or a drive is in flight on its code; otherwise the entry of that index is gone from the
table, the reply is OK and everything else, the notice set included, is as in u. (That DELETE_OUTPUT takes one index
byte is the model's reading, log 36.) -/
def Obligations.OutputsAreLoadedAndDeleted : Prop :=
  (∀ (rq : Requester) (a : List Byte) (s : State), Accepted rq (8 :: a) s →
    let u := acceptedBy rq (8 :: a) s
    (OutputsSound s → u.hold = true → a.length = 8 → outputInRange a = true → outputCodeTaken s (outputOf a) = false →
      outputPlacesTaken s (outputOf a) = false → outputInUse s (outputOf a) = false →
      ∃ t e, exec (.loadOutput rq a) s = .next t ∧ Replied rq 8 .ok [] t ∧
        findOutput t (indexAt (u8 a 0)) = some e ∧ e.restart = outputOf a ∧ e.toggle = false ∧ e.exposed = false ∧
        e.confirmed = none ∧ e.next = none ∧ e.retries = 0 ∧ e.busies = 0 ∧ e.timer = none ∧
        (match heldValue s (zoneAt (u8 a 3)) (outputOf a).function with
          | none => e = outputOf a
          | some v => e.computed = some v ∧ (e.state = .pending ∨ (e.state = .queued ∧ e.sent = some v))) ∧
        ∀ j x, j ≠ indexAt (u8 a 0) → findOutput s j = some x →
          findOutput t j = some x ∨ (eligible u x = true ∧ ∃ n, findOutput t j = some (x.admitted n))) ∧
    (u.hold = false → EndsIn (.loadOutput rq a) s (withReply rq 8 .needsHold [] u))) ∧
  ∀ (rq : Requester) (a : List Byte) (s : State), Accepted rq (9 :: a) s → a.length = 1 → u8 a 0 ≤ 63 →
    let u := acceptedBy rq (9 :: a) s
    EndsIn (.deleteOutput rq a) s (
      if u.hold = false then withReply rq 9 .needsHold [] u
      else match findOutput s (indexAt (u8 a 0)) with
        | none => withReply rq 9 .notFound [] u
        | some e =>
          if e.state = .queued ∨ s.drive.map (·.frame.target) = some e.code then withReply rq 9 .inUse [] u
          else withReply rq 9 .ok [] { u with outputs := s.outputs.filter fun x => x.index != indexAt (u8 a 0) })

/-- R87, R88, R89, R90, R91, R92, R93, R97. With u what arrival and acceptance leave, and but for offers still open.
LOAD_BOOKING of its length answers OUT_OF_RANGE, DUPLICATE, OVERLAP or TABLE_FULL by the first test that fails and
changes nothing then, and otherwise only inserts its booking on the STANDBY page; CLEAR_STANDBY only empties the
STANDBY page; the ACTIVE page is never touched. SWAP_PAGES makes the other page ACTIVE with both contents kept, and
every zone's view is what the newly ACTIVE page shows, and the mismatch set is formed anew, an id that enters raising
PARTITION_MISMATCH; elapsed second, clock, points and parameters are kept. -/
def Obligations.BookingPagesAreLoadedClearedAndSwapped : Prop :=
  ∀ (rq : Requester) (a : List Byte) (s : State),
    let standby := if s.activePage = .a then s.pageB else s.pageA
    let put := fun (page : List Booking) (s : State) =>
      if s.activePage = .a then { s with pageB := page } else { s with pageA := page }
    (Accepted rq (11 :: a) s → a.length = 13 →
      let u := acceptedBy rq (11 :: a) s
      EndsIn (.loadBooking rq a) s (
        if bookingInRange s a = false then withReply rq 11 .outOfRange [] u
        else if ∃ b ∈ standby, b.id = u16 a 0 then withReply rq 11 .duplicate [] u
        else if ∃ b ∈ standby, overlapsBooking (bookingOf a) b = true then withReply rq 11 .overlap [] u
        else if 64 ≤ standby.length then withReply rq 11 .tableFull [] u
        else withReply rq 11 .ok [] (put (insertBooking (bookingOf a) standby) u))) ∧
    (Accepted rq [12] s →
      EndsIn (.clearStandby rq []) s (withReply rq 12 .ok [] (put [] (acceptedBy rq [12] s)))) ∧
    (Accepted rq [13] s →
      ∃ t, exec (.swapPages rq []) s = .next t ∧ Replied rq 13 .ok [] t ∧
        t.activePage = (if s.activePage = .a then .b else .a) ∧
        (∀ z : Zone, t.views[z] = viewOf t z ∧ ViewShows t z t.views[z]) ∧
        MismatchAfter s.mismatch (s.notice .partitionMismatch) t ∧
        RoomFrame { acceptedBy rq [13] s with activePage := t.activePage } t)

/-- R138, R139, R140, R144, R146. An accepted LOAD_SCENE that passes its tests leaves its scene under its number and
every other scene as it was; every present zone whose scene in force has that number keeps it in force with the new
start levels and modes and a fade end at this second plus the new fade; a zone whose scene in force is another keeps
its light record. An accepted LOAD_PROFILE that passes its tests leaves its five slots in its profile and the other
profiles as they were. Both reply OK and leave points, zones, pages, parameters and mode. -/
def Obligations.ScenesAndProfilesAreLoaded : Prop :=
  ∀ (rq : Requester) (a : List Byte) (s : State),
    (Accepted rq (15 :: a) s → a.length = 34 → sceneInRange a = true →
      ∃ t, exec (.loadScene rq a) s = .next t ∧ Replied rq 15 .ok [] t ∧
        (∀ k : Fin 16, t.scenes[k] = if k.val + 1 = u8 a 0 then some (sceneOf a) else s.scenes[k]) ∧
        (∀ z : Zone, present s z = true → s.light[z].scene = some (.scene (u8 a 0)) →
          t.light[z].scene = some (.scene (u8 a 0)) ∧ t.light[z].fadeEnd = some (s.elapsed + u8 a 33) ∧
          ∀ ch : Fin 4, t.light[z].modes[ch] = (settingOf a ch.val).isDaylight ∧
            t.light[z].levels[ch] = (settingOf a ch.val).startLevel) ∧
        (∀ z : Zone, s.light[z].scene ≠ some (.scene (u8 a 0)) → t.light[z] = s.light[z]) ∧
        RoomFrame { acceptedBy rq (15 :: a) s with scenes := t.scenes } t) ∧
    (Accepted rq (16 :: a) s → a.length = 6 → profileInRange a = true →
      ∃ t, exec (.loadProfile rq a) s = .next t ∧ Replied rq 16 .ok [] t ∧
        (∀ k : Fin 8, t.profiles[k] =
          if k.val = u8 a 0 then ⟨u8 a 1, u8 a 2, u8 a 3, u8 a 4, u8 a 5⟩ else s.profiles[k]) ∧
        RoomFrame { acceptedBy rq (16 :: a) s with profiles := t.profiles } t)

/-- R118, R124, R155, R175, R176. For an accepted SET_PARAMETER of its length, with u what arrival and acceptance
leave: an id outside 1-28 is answered NOT_FOUND, a value outside its range (with the sun thresholds' cross-test)
OUT_OF_RANGE, a report point that meets a table code or the other report points DUPLICATE, each ending in u with the
reply. Otherwise reading that id gives the value, every other id reads as before, the reply echoes id and value, and
besides offers nothing else changes. -/
def Obligations.ParametersAreSetOneAtATime : Prop :=
  ∀ (rq : Requester) (a : List Byte) (s : State), Accepted rq (17 :: a) s → a.length = 3 →
    let id := u8 a 0
    let v := u16 a 1
    let u := acceptedBy rq (17 :: a) s
    (s.params.get id = none → EndsIn (.setParameter rq a) s (withReply rq 17 .notFound [] u)) ∧
    (s.params.get id ≠ none → paramInRange s.params id v = false →
      EndsIn (.setParameter rq a) s (withReply rq 17 .outOfRange [] u)) ∧
    (s.params.get id ≠ none → paramInRange s.params id v = true → paramDuplicate s id v = true →
      EndsIn (.setParameter rq a) s (withReply rq 17 .duplicate [] u)) ∧
    (s.params.get id ≠ none → paramInRange s.params id v = true → paramDuplicate s id v = false →
      ∃ t, exec (.setParameter rq a) s = .next t ∧ Replied rq 17 .ok a t ∧
        t.params.get id = some v ∧ (∀ j, j ≠ id → t.params.get j = s.params.get j) ∧
        Offered (withReply rq 17 .ok a { u with params := t.params }) t)

/-- R63, R67, R100, R107, R110, R177. An accepted SET_OVERRIDE in range leaves its zone's override with the mode it
carries, no expiry for AUTO or duration 0 and otherwise this second plus 60 times the minutes, and every other zone's
override. The group that holds the zone has the effective override its members then form; one newly forced occupied is
OCCUPIED, one newly forced vacant is VACANT with head count 0. The reply is OK and only state of the room changes
besides. -/
def Obligations.SetOverrideForcesTheGroup : Prop :=
  ∀ (rq : Requester) (a : List Byte) (z l : Zone) (g : Group) (s : State), Accepted rq (19 :: a) s → a.length = 4 →
    u8 a 0 = z.val → present s z = true → u8 a 1 ≤ 2 → u16 a 2 ≤ 720 → groupOf s z = some (l, g) →
    ∃ t h, exec (.setOverride rq a) s = .next t ∧ Replied rq 19 .ok [] t ∧
      t.overrides[z] = ⟨if u8 a 1 = 0 then .auto else if u8 a 1 = 1 then .forceOccupied else .forceVacant,
        if u8 a 1 = 0 ∨ u16 a 2 = 0 then none else some (s.elapsed + 60 * u16 a 2)⟩ ∧
      (∀ y : Zone, y ≠ z → t.overrides[y] = s.overrides[y]) ∧
      t.groups[l] = some h ∧ h.members = g.members ∧ h.effOverride = effectiveOverride t g.members ∧
      (h.effOverride = .forceOccupied → g.effOverride ≠ .forceOccupied → h.state = .occupied) ∧
      (h.effOverride = .forceVacant → g.effOverride ≠ .forceVacant → h.state = .vacant ∧ h.headCount = 0) ∧
      RoomFrame (acceptedBy rq (19 :: a) s) t

/-- R177, R185. With u what arrival and acceptance leave. An accepted CLEAR_NOTICES of its length leaves each kind
whose bit is set clear, with no detail and no pending mark, every other kind as in u, replies with the mask of the
flags still set, and but for offers still open touches nothing else. An accepted SET_MATCH in range leaves its unit
with the enable, side, field, value and action it carries and hit count 0, and changes nothing else; out of range it
ends in u with the reply OUT_OF_RANGE. -/
def Obligations.NoticesAreClearedAndUnitsSet : Prop :=
  ∀ (rq : Requester) (a : List Byte) (s : State),
    (Accepted rq (21 :: a) s → a.length = 2 →
      let u := acceptedBy rq (21 :: a) s
      ∃ n, (∀ k : NoticeKind, n[k.code] =
          if (u16 a 0).testBit k.code.val then ⟨false, none, false⟩ else u.notice k) ∧
        EndsIn (.clearNotices rq a) s
          (withReply rq 21 .ok (be16 (noticeFlags { u with notices := n })) { u with notices := n })) ∧
    (Accepted rq (22 :: a) s → a.length = 7 →
      let u := acceptedBy rq (22 :: a) s
      EndsIn (.setMatch rq a) s (
        if matchInRange a = true then
          withReply rq 22 .ok [] { u with
            matchUnits := u.matchUnits.set (Fin.ofNat 5 (u8 a 0 - 1))
              { enable := u8 a 1 == 1
                side := if u8 a 2 = 0 then .room else if u8 a 2 = 1 then .trunk else .either
                onOrigin := u8 a 3 == 1
                value := u16 a 4
                hold := u8 a 6 == 1
                hits := 0 } }
        else withReply rq 22 .outOfRange [] u))

/-- R49, R162, R180, R183. With u what arrival and acceptance leave. HOLD in RUN: the device is in HOLD, HOLD_ENTERED
is set with detail 0, the reply is OK, and besides offers nothing else changes. RESUME in HOLD: the device is in RUN,
every supervised AWAITING entry without a deadline has one at this second plus its limit and every other entry is as
it was, the reply is OK, and besides offers, among them those of entries that have become eligible, nothing else
changes. HOLD in HOLD and RESUME in RUN end in u with the reply OK. -/
def Obligations.HoldAndResumeChangeTheMode : Prop :=
  ∀ (rq : Requester) (s : State),
    (Accepted rq [24] s →
      let u := acceptedBy rq [24] s
      (u.hold = false →
        ∃ t, exec (.hold rq []) s = .next t ∧ Replied rq 24 .ok [] t ∧ t.hold = true ∧
          (t.notice .holdEntered).flag = true ∧ (t.notice .holdEntered).detail = some 0 ∧
          ∃ n, Offered (withReply rq 24 .ok [] { u with hold := true, notices := n }) t ∧
            ∀ k : NoticeKind, k ≠ .holdEntered → n[k.code] = u.notice k) ∧
      (u.hold = true → EndsIn (.hold rq []) s (withReply rq 24 .ok [] u))) ∧
    (Accepted rq [25] s →
      let u := acceptedBy rq [25] s
      (u.hold = true →
        ∃ t, exec (.resume rq []) s = .next t ∧ Replied rq 25 .ok [] t ∧
          Offered (withReply rq 25 .ok [] { u with
            hold := false
            points := s.points.map fun e =>
              if e.silenceLimit ≠ 0 ∧ e.supervision = .awaiting ∧ e.deadline = none then
                { e with deadline := some (s.elapsed + e.silenceLimit) }
              else e }) t ∧
          (OutputsSound s → admits .room false t = true → ∀ e ∈ t.outputs, eligible t e = false)) ∧
      (u.hold = false → EndsIn (.resume rq []) s (withReply rq 25 .ok [] u)))

/-- R168, R171, R188, R189. For an accepted DRIVE_POINT that passes its tests, with u what arrival and acceptance
leave: with the room port UP the slot holds a COMMAND of priority 1 and hop 6 from the device's address with the given
code and value bytes, under the toggle of the code's entry or else the drive toggle; the reply is deferred to the
requester, the slot is answered ACK, and besides offers nothing else changes. With the room port DOWN the drive has
ended at once: it ends in u, slot and toggles as they were, with the deferred reply of outcome NONE still to be
offered; where nothing else is left to offer, that reply is in the trunk queue and nothing else has changed. Outside
HOLD it ends in u with the reply NEEDS_HOLD. -/
def Obligations.DrivePointStartsADrive : Prop :=
  ∀ (rq : Requester) (a : List Byte) (s : State), Accepted rq (26 :: a) s →
    let u := acceptedBy rq (26 :: a) s
    let code : PointCode := BitVec.ofNat 12 (u16 a 0)
    let frame : Frame :=
      { priority := 1, kind := .command, hop := 6, originLine := s.address.trunkLine, originNode := s.address.node,
        target := code
        toggle := match outputOfCode s code with
          | some e => e.toggle
          | none => s.driveToggle
        spare := 0, value := (a.drop 3).take (u8 a 2) }
    (u.hold = true → a.length = 11 → u16 a 0 ≤ 4095 → u8 a 2 ≤ 8 → s.drive = none → s.deferred = none →
      (∀ e, outputOfCode s code = some e → e.state ≠ .queued) →
      (s.room.up = true →
        ∃ t d, exec (.drivePoint rq a) s = .next t ∧ t.drive = some d ∧ d.frame = frame ∧
          t.deferred = some ⟨rq.port, rq.line, rq.node, rq.priority, none⟩ ∧
          (d.queued = true ∨ admits .room false t = false) ∧
          Offered { u with
            drive := some ⟨frame, false⟩
            deferred := some ⟨rq.port, rq.line, rq.node, rq.priority, none⟩ } t) ∧
      (s.room.up = false →
        (∃ t, exec (.drivePoint rq a) s = .next t ∧ t.drive = none ∧ t.driveToggle = s.driveToggle ∧
          Offered { u with deferred := some ⟨rq.port, rq.line, rq.node, rq.priority, some .unheard⟩ } t) ∧
        (Settled u → exec (.drivePoint rq a) s = .next (withReply rq 26 .ok [3] u)))) ∧
    (u.hold = false → EndsIn (.drivePoint rq a) s (withReply rq 26 .needsHold [] u))

/-- R16, R20, R41, R51, R57, R167, R179, R182, R188, R189. For an accepted ROOM_RESET with no argument, u what arrival
and acceptance leave. Room port UP: the signal is driven on the room line, the reply is OK with 1, the port stays UP,
no relayed and no SENDING frame is in the room queue, the counts of both ports are kept and the trunk queue only grows
by own frames; room-side points are AWAITING with their values kept and no last arrival, COMMAND or out-of-span mark
(a deadline only in RUN), trunk-side points are as they were; every entry has toggle 0, no exposed mark, nothing
confirmed and counts 0, and the drive slot and toggle are cleared; every zone's last presence and weak-evidence
pending time are none, and window opened at is this second where the window aggregate is 1, else none; where a relayed
COMMAND was withdrawn, RELAY_UNDELIVERED is set with the code one of them arrived with (which, of several, is open,
log 8), and is as it was otherwise; where a drive ended, its deferred reply is built with NONE, held or in its queue:
for the trunk port it is in its queue where that port, UP, has a place behind the reply of this request; for the room
port it is in its queue, or that queue is full (whether entries that the reset made PENDING take places before it is
open, R188, log 7); partition values, zones, overrides, clock, parameters and mode are kept. Room port DOWN: it ends
in u with the reply OK with 0. -/
def Obligations.RoomResetRestartsTheRoomSide : Prop :=
  ∀ (rq : Requester) (s : State), Accepted rq [27] s →
    let u := acceptedBy rq [27] s
    (s.room.up = true →
      ∃ t, exec (.roomReset rq []) s = .next t ∧ Replied rq 27 .ok [1] t ∧ t.pins.roomSignal = true ∧
        t.room.up = true ∧ (∀ q ∈ t.room.queue, q.relayed = false ∧ q.sending = false) ∧
        t.room.checkErrors = s.room.checkErrors ∧ t.room.relayDropped = s.room.relayDropped ∧
        t.trunk.checkErrors = s.trunk.checkErrors ∧ t.trunk.relayDropped = s.trunk.relayDropped ∧
        OwnAppended s.trunk t.trunk ∧
        t.points = s.points.map (fun e =>
          if e.side = .room then
            { e with
              supervision := .awaiting
              deadline := if u.hold || e.silenceLimit == 0 then none else some (s.elapsed + e.silenceLimit)
              lastArrival := none
              outOfSpan := false
              lastCommand := none }
          else e) ∧
        (∀ e ∈ t.outputs, e.toggle = false ∧ e.exposed = false ∧ e.confirmed = none ∧ e.next = none ∧
          e.retries = 0 ∧ e.busies = 0 ∧ e.timer = none ∧ (e.state = .idle ∨ e.state = .pending ∨ e.state = .queued)) ∧
        (∀ z : Zone, t.evidence[z] =
          ⟨none, none, if windowOpen t z = true then some s.elapsed else none⟩) ∧
        ((∃ q ∈ s.room.queue, ∃ c n, q.owner = .delivery c n) →
          (t.notice .relayUndelivered).flag = true ∧ ∃ q ∈ s.room.queue, ∃ c n, q.owner = .delivery c n ∧
            (t.notice .relayUndelivered).detail = some (c.setWidth 16 ++ (0 : BitVec 8))) ∧
        ((∀ q ∈ s.room.queue, ∀ c n, q.owner ≠ .delivery c n) →
          (t.notice .relayUndelivered).flag = (s.notice .relayUndelivered).flag ∧
          (t.notice .relayUndelivered).detail = (s.notice .relayUndelivered).detail) ∧
        (∀ d r, s.drive = some d → s.deferred = some r →
          (t.deferred = none ∨ t.deferred = some { r with outcome := some .unheard }) ∧
          let replied := t.deferred = none ∧ ∃ x ∈ (t.port r.port).queue, x.owner = .reply ∧
            x.frame = replyFields ⟨r.port, r.line, r.node, r.priority, false, 0, 0⟩ 26 .ok [3] s
          (r.port = .trunk → s.trunk.up = true →
            s.trunk.queue.length + (if rq.port = .trunk then 1 else 0) < 16 → replied) ∧
          (r.port = .room → replied ∨ 24 ≤ t.room.queue.length)) ∧
        t.drive = none ∧ t.driveToggle = false ∧ t.partitions = s.partitions ∧ t.zones = s.zones ∧
        t.overrides = s.overrides ∧ t.clock = s.clock ∧ t.params = s.params ∧ t.hold = u.hold ∧
        t.elapsed = s.elapsed) ∧
    (s.room.up = false → EndsIn (.roomReset rq []) s (withReply rq 27 .ok [0] u))

/-- R78. For a total of at most 400 and 1 to 4 areas of at least 10: there are as many shares as areas, they sum to
the total, the leftover after the first shares is less than the number of zones, and each zone's share is its first
share, plus one exactly when fewer than the leftover zones have a larger remainder or an equal one at a lower place.
So a total of 0 gives 0 to every zone and a list of one zone gets the whole total. -/
def Obligations.ApportionmentSharesTheTotal : Prop :=
  ∀ (n : Nat) (areas : List Nat), n ≤ 400 → 1 ≤ areas.length → areas.length ≤ 4 → (∀ a ∈ areas, 10 ≤ a) →
    let total := areas.sum
    let left := n - (areas.map fun a => n * a / total).sum
    let shares := apportion n areas
    shares.length = areas.length ∧ shares.sum = n ∧ (areas.map fun a => n * a / total).sum ≤ n ∧ left < areas.length ∧
    ∀ i : Fin areas.length, shares.getD i.val 0 = n * areas[i] / total +
      if (Finset.univ.filter fun j : Fin areas.length =>
        n * areas[i] % total < n * areas[j] % total ∨
          (n * areas[j] % total = n * areas[i] % total ∧ j < i)).card < left then 1 else 0

/-- R22, R60, R86, R116, R134, R137, R141, R157, R160, R173, R177, R180. For every point entry whose silence limit and
map bounds fit 16 bits, every zone record in range and every booking whose fields fit their bytes, the record a load
reads from the bytes a read returns for it is that record (a point's with its runtime afresh): no field of the three
layouts is dropped or moved. And the other reply data stand at the places R173 gives: READ_POINT's 37 bytes end in
supervision, out_of_span, last arrival and the four values; READ_ZONE's parts 0 to 4 have 22, 25, 38, 20 and 38 bytes
with override, booking view, evidence and aggregates, the group record under its leader, the air record (signed values
in two's complement), and the light record with the sun record; READ_OUTPUT's 28 bytes hold the entry's fields, state,
flags, values, counts and timer; READ_NOTICES's 38 bytes the flags and 12 details, zero for a clear flag. (An elapsed
second of 4294967295 or more, log 16, a last value that is not one number, log 17, and the bytes behind a shorter
value, log 15, are left open.) -/
def Obligations.RecordsReadBackAndRepliesAreLaidOut : Prop :=
  (∀ e : PointEntry, e.silenceLimit < 65536 →
      (∀ m ∈ e.rangeMap, m.sourceLow < 65536 ∧ m.sourceHigh < 65536 ∧ m.targetLow < 65536 ∧ m.targetHigh < 65536) →
      pointOf e.staticBytes = e.fresh) ∧
    (∀ (z : Zone) (c : ZoneConfig), c.inRange = true → zoneConfigOf (byteOf z.val :: zoneConfigBytes (some c)) = c) ∧
    (∀ b : Booking, b.id < 65536 → b.start < 65536 → b.stop < 65536 → b.count < 65536 → b.lead < 256 →
      b.profile < 256 → bookingOf b.bytes = b) ∧
    (∀ e : PointEntry, let d := e.replyBytes
      d.length = 37 ∧ d.take 23 = e.staticBytes ∧
      u8 d 23 = (match e.supervision with
        | .awaiting => 0
        | .live => 1
        | .stale => 2) ∧
      u8 d 24 = (if e.outOfSpan then 1 else 0) ∧ SecondAt d 25 e.lastArrival ∧
      (match e.attachment with
        | .lanes _ => ∀ k : Fin 4, FieldAt d (29 + 2 * k.val) e.lanes[k]
        | _ => (∀ n, e.last = some (.number n) → u16 d 29 = n % 65536) ∧ (e.last = none → u16 d 29 = 65535) ∧
          u16 d 31 = 65535 ∧ u16 d 33 = 65535 ∧ u16 d 35 = 65535)) ∧
    (∀ (s : State) (z : Zone), let d := zonePart s z 0
      d.length = 22 ∧ d.take 11 = zoneConfigBytes s.zones[z] ∧ u8 d 11 = s.overrides[z].mode.code ∧
      SecondAt d 12 s.overrides[z].expiry ∧ FieldAt d 16 s.views[z].active ∧
      FieldAt d 18 (s.views[z].upcoming.map (·.id)) ∧ FieldAt d 20 s.views[z].toNext) ∧
    (∀ (s : State) (z : Zone), let d := zonePart s z 1
      d.length = 25 ∧ SecondAt d 0 s.evidence[z].lastPresence ∧ SecondAt d 4 s.evidence[z].pendingTime ∧
      SecondAt d 8 s.evidence[z].windowOpenedAt ∧ FieldAt d 12 (seatCount s z) ∧ FieldAt d 14 (co2Of s z) ∧
      FieldAt d 16 (luxOf s z) ∧ u8 d 18 = (if windowOpen s z then 1 else 0) ∧
      u8 d 19 = (if projectorOn s z then 1 else 0) ∧
      (∀ k : Fin 3, ByteAt d (20 + k.val) (s.partitions[k].map fun v => if v then 1 else 0)) ∧
      FieldAt d 23 s.irradiance) ∧
    (∀ (s : State) (z l : Zone) (g : Group), groupOf s z = some (l, g) → let d := zonePart s z 2
      d.length = 38 ∧ u8 d 0 = l.val ∧
      u8 d 1 = (allZones.map fun y => if y ∈ g.members then 2 ^ y.val else 0).sum ∧ u8 d 2 = g.state.code ∧
      u8 d 3 = g.effOverride.code ∧ SecondAt d 4 g.overrideExpiry ∧ u16 d 8 = g.reportedBooking % 65536 ∧
      FieldAt d 10 (g.booking.upcoming.map (·.id)) ∧ FieldAt d 12 (g.booking.upcoming.map fun x => x.start % 1440) ∧
      u16 d 14 = g.booking.expected % 65536 ∧
      ByteAt d 16 (g.booking.session.map fun x => match x with
        | .lecture => 0
        | .seminar => 1
        | .exam => 2
        | .event => 3) ∧
      u8 d 17 = g.booking.profile % 256 ∧
      u8 d 18 = (if g.attended then 1 else 0) + (if g.presentation then 2 else 0) + (if g.reportPending then 4 else 0) ∧
      SecondAt d 19 g.pendingSince ∧ SecondAt d 23 g.lastPresence ∧ SecondAt d 27 g.holdoverDeadline ∧
      SecondAt d 31 g.noShowDeadline ∧ u16 d 35 = g.headCount % 65536 ∧
      ByteAt d 37 (g.manualScene.map fun x => match x with
        | .off => 0
        | .scene n => n)) ∧
    (∀ (s : State) (z : Zone), let d := zonePart s z 3; let r := s.air[z]
      d.length = 20 ∧ ((u32 d 0 : Int) - r.integrator) % 4294967296 = 0 ∧ u8 d 4 = (if r.limited then 1 else 0) ∧
      u16 d 5 = r.dOut % 65536 ∧ u16 d 7 = r.allowance % 65536 ∧ FieldAt d 9 r.dTarget ∧ FieldAt d 11 r.command ∧
      ByteAt d 13 (r.thermal.map fun x => match x with
        | .comfort => 0
        | .standby => 1
        | .economy => 2
        | .protect => 3) ∧
      u32 d 14 = r.dBase % 4294967296 ∧ ((u16 d 18 : Int) - r.eEff) % 65536 = 0) ∧
    (∀ (s : State) (z : Zone), let d := zonePart s z 4; let r := s.light[z]
      d.length = 38 ∧
      ByteAt d 0 (r.scene.map fun x => match x with
        | .off => 0
        | .scene n => n) ∧
      u8 d 1 = (allZones.map fun ch => if r.modes[ch] then 2 ^ ch.val else 0).sum + (if s.sun.high then 128 else 0) ∧
      (∀ ch : Fin 4, u16 d (2 + 2 * ch.val) = r.levels[ch] % 65536) ∧ SecondAt d 10 r.fadeEnd ∧
      FieldAt d 14 (r.blindTarget.map (·.height)) ∧ FieldAt d 16 (r.blindTarget.map (·.slat)) ∧
      FieldAt d 18 (r.blindSent.map (·.height)) ∧ FieldAt d 20 (r.blindSent.map (·.slat)) ∧
      SecondAt d 22 r.lastSend ∧ SecondAt d 26 r.motionEnd ∧ SecondAt d 30 s.sun.highSince ∧
      SecondAt d 34 s.sun.lowSince) ∧
    (∀ e : OutEntry, let d := e.replyBytes
      d.length = 28 ∧ u8 d 0 = e.index.val ∧ u16 d 1 = e.code.toNat ∧ u8 d 3 = e.zone.val ∧
      u8 d 4 = e.function.code ∧ u8 d 5 = e.deadband % 256 ∧ u16 d 6 = e.refresh % 65536 ∧
      u8 d 8 = (match e.state with
        | .idle => 0
        | .pending => 1
        | .queued => 2
        | .backoff => 3
        | .confirmed => 4
        | .unanswered => 5
        | .refused => 6) ∧
      u8 d 9 = (if e.toggle then 1 else 0) + (if e.exposed then 2 else 0) ∧ ValueAt d 10 e.function e.computed ∧
      ValueAt d 13 e.function e.sent ∧ ValueAt d 16 e.function e.confirmed ∧ ValueAt d 19 e.function e.next ∧
      u8 d 22 = e.retries % 256 ∧ u8 d 23 = e.busies % 256 ∧ SecondAt d 24 e.timer) ∧
    ∀ s : State, let d := noticeBytes s
      d.length = 38 ∧ (∀ k : NoticeKind, (u16 d 0).testBit k.code.val = (s.notice k).flag) ∧ u16 d 0 < 4096 ∧
      ∀ k : NoticeKind, u8 d (2 + 3 * k.code.val) * 65536 + u16 d (3 + 3 * k.code.val) =
        if (s.notice k).flag then ((s.notice k).detail.getD 0).toNat else 0
end

