-- ==== Sys2Proof/Laws/State.lean ====
section
/-! SUPPORT. What the updates of the state leave of each field: one lemma per field per update, all true by unfolding the update once. -/

namespace Sys2Proof.Machine


/-! ### withPort (R1, R10) -/

@[simp] theorem State.port_room (s : State) : s.port .room = s.room := rfl
@[simp] theorem State.port_trunk (s : State) : s.port .trunk = s.trunk := rfl
@[simp] theorem State.port_withPort_self (s : State) (p : Port) (q : LinePort) : (s.withPort p q).port p = q := by
  cases p <;> rfl
@[simp] theorem State.port_withPort_other (s : State) (p : Port) (q : LinePort) :
    (s.withPort p q).port (otherPort p) = s.port (otherPort p) := by cases p <;> rfl
@[simp] theorem State.withPort_self (s : State) (p : Port) : s.withPort p (s.port p) = s := by cases p <;> rfl
@[simp] theorem State.withPort_room_room (s : State) (q : LinePort) : (s.withPort .room q).room = q := rfl
@[simp] theorem State.withPort_room_trunk (s : State) (q : LinePort) : (s.withPort .room q).trunk = s.trunk := rfl
@[simp] theorem State.withPort_trunk_trunk (s : State) (q : LinePort) : (s.withPort .trunk q).trunk = q := rfl
@[simp] theorem State.withPort_trunk_room (s : State) (q : LinePort) : (s.withPort .trunk q).room = s.room := rfl
@[simp] theorem State.withPort_address (s : State) (p : Port) (q : LinePort) : (s.withPort p q).address = s.address := by
  cases p <;> rfl
@[simp] theorem State.withPort_trunkSignal (s : State) (p : Port) (q : LinePort) : (s.withPort p q).trunkSignal = s.trunkSignal := by
  cases p <;> rfl
@[simp] theorem State.withPort_pins (s : State) (p : Port) (q : LinePort) : (s.withPort p q).pins = s.pins := by
  cases p <;> rfl
@[simp] theorem State.withPort_points (s : State) (p : Port) (q : LinePort) : (s.withPort p q).points = s.points := by
  cases p <;> rfl
@[simp] theorem State.withPort_evidence (s : State) (p : Port) (q : LinePort) : (s.withPort p q).evidence = s.evidence := by
  cases p <;> rfl
@[simp] theorem State.withPort_partitions (s : State) (p : Port) (q : LinePort) : (s.withPort p q).partitions = s.partitions := by
  cases p <;> rfl
@[simp] theorem State.withPort_irradiance (s : State) (p : Port) (q : LinePort) : (s.withPort p q).irradiance = s.irradiance := by
  cases p <;> rfl
@[simp] theorem State.withPort_zones (s : State) (p : Port) (q : LinePort) : (s.withPort p q).zones = s.zones := by
  cases p <;> rfl
@[simp] theorem State.withPort_overrides (s : State) (p : Port) (q : LinePort) : (s.withPort p q).overrides = s.overrides := by
  cases p <;> rfl
@[simp] theorem State.withPort_groups (s : State) (p : Port) (q : LinePort) : (s.withPort p q).groups = s.groups := by
  cases p <;> rfl
@[simp] theorem State.withPort_elapsed (s : State) (p : Port) (q : LinePort) : (s.withPort p q).elapsed = s.elapsed := by
  cases p <;> rfl
@[simp] theorem State.withPort_clock (s : State) (p : Port) (q : LinePort) : (s.withPort p q).clock = s.clock := by
  cases p <;> rfl
@[simp] theorem State.withPort_freeRunning (s : State) (p : Port) (q : LinePort) : (s.withPort p q).freeRunning = s.freeRunning := by
  cases p <;> rfl
@[simp] theorem State.withPort_pageA (s : State) (p : Port) (q : LinePort) : (s.withPort p q).pageA = s.pageA := by
  cases p <;> rfl
@[simp] theorem State.withPort_pageB (s : State) (p : Port) (q : LinePort) : (s.withPort p q).pageB = s.pageB := by
  cases p <;> rfl
@[simp] theorem State.withPort_activePage (s : State) (p : Port) (q : LinePort) : (s.withPort p q).activePage = s.activePage := by
  cases p <;> rfl
@[simp] theorem State.withPort_views (s : State) (p : Port) (q : LinePort) : (s.withPort p q).views = s.views := by
  cases p <;> rfl
@[simp] theorem State.withPort_mismatch (s : State) (p : Port) (q : LinePort) : (s.withPort p q).mismatch = s.mismatch := by
  cases p <;> rfl
@[simp] theorem State.withPort_air (s : State) (p : Port) (q : LinePort) : (s.withPort p q).air = s.air := by
  cases p <;> rfl
@[simp] theorem State.withPort_scenes (s : State) (p : Port) (q : LinePort) : (s.withPort p q).scenes = s.scenes := by
  cases p <;> rfl
@[simp] theorem State.withPort_profiles (s : State) (p : Port) (q : LinePort) : (s.withPort p q).profiles = s.profiles := by
  cases p <;> rfl
@[simp] theorem State.withPort_light (s : State) (p : Port) (q : LinePort) : (s.withPort p q).light = s.light := by
  cases p <;> rfl
@[simp] theorem State.withPort_sun (s : State) (p : Port) (q : LinePort) : (s.withPort p q).sun = s.sun := by
  cases p <;> rfl
@[simp] theorem State.withPort_outputs (s : State) (p : Port) (q : LinePort) : (s.withPort p q).outputs = s.outputs := by
  cases p <;> rfl
@[simp] theorem State.withPort_lastRequester (s : State) (p : Port) (q : LinePort) : (s.withPort p q).lastRequester = s.lastRequester := by
  cases p <;> rfl
@[simp] theorem State.withPort_deferred (s : State) (p : Port) (q : LinePort) : (s.withPort p q).deferred = s.deferred := by
  cases p <;> rfl
@[simp] theorem State.withPort_notices (s : State) (p : Port) (q : LinePort) : (s.withPort p q).notices = s.notices := by
  cases p <;> rfl
@[simp] theorem State.withPort_params (s : State) (p : Port) (q : LinePort) : (s.withPort p q).params = s.params := by
  cases p <;> rfl
@[simp] theorem State.withPort_hold (s : State) (p : Port) (q : LinePort) : (s.withPort p q).hold = s.hold := by
  cases p <;> rfl
@[simp] theorem State.withPort_matchUnits (s : State) (p : Port) (q : LinePort) : (s.withPort p q).matchUnits = s.matchUnits := by
  cases p <;> rfl
@[simp] theorem State.withPort_captures (s : State) (p : Port) (q : LinePort) : (s.withPort p q).captures = s.captures := by
  cases p <;> rfl
@[simp] theorem State.withPort_overflow (s : State) (p : Port) (q : LinePort) : (s.withPort p q).overflow = s.overflow := by
  cases p <;> rfl
@[simp] theorem State.withPort_drive (s : State) (p : Port) (q : LinePort) : (s.withPort p q).drive = s.drive := by
  cases p <;> rfl
@[simp] theorem State.withPort_driveToggle (s : State) (p : Port) (q : LinePort) : (s.withPort p q).driveToggle = s.driveToggle := by
  cases p <;> rfl
@[simp] theorem State.withPort_due (s : State) (p : Port) (q : LinePort) : (s.withPort p q).due = s.due := by
  cases p <;> rfl
@[simp] theorem State.withPort_free (s : State) (p : Port) (q : LinePort) : (s.withPort p q).free = s.free := by
  cases p <;> rfl
@[simp] theorem State.withPort_pending (s : State) (p : Port) (q : LinePort) : (s.withPort p q).pending = s.pending := by
  cases p <;> rfl

/-! ### clearPins (log 12) -/

@[simp] theorem clearPins_room (s : State) : (clearPins s).room = s.room := rfl
@[simp] theorem clearPins_trunk (s : State) : (clearPins s).trunk = s.trunk := rfl
@[simp] theorem clearPins_address (s : State) : (clearPins s).address = s.address := rfl
@[simp] theorem clearPins_trunkSignal (s : State) : (clearPins s).trunkSignal = s.trunkSignal := rfl
@[simp] theorem clearPins_points (s : State) : (clearPins s).points = s.points := rfl
@[simp] theorem clearPins_evidence (s : State) : (clearPins s).evidence = s.evidence := rfl
@[simp] theorem clearPins_partitions (s : State) : (clearPins s).partitions = s.partitions := rfl
@[simp] theorem clearPins_irradiance (s : State) : (clearPins s).irradiance = s.irradiance := rfl
@[simp] theorem clearPins_zones (s : State) : (clearPins s).zones = s.zones := rfl
@[simp] theorem clearPins_overrides (s : State) : (clearPins s).overrides = s.overrides := rfl
@[simp] theorem clearPins_groups (s : State) : (clearPins s).groups = s.groups := rfl
@[simp] theorem clearPins_elapsed (s : State) : (clearPins s).elapsed = s.elapsed := rfl
@[simp] theorem clearPins_clock (s : State) : (clearPins s).clock = s.clock := rfl
@[simp] theorem clearPins_freeRunning (s : State) : (clearPins s).freeRunning = s.freeRunning := rfl
@[simp] theorem clearPins_pageA (s : State) : (clearPins s).pageA = s.pageA := rfl
@[simp] theorem clearPins_pageB (s : State) : (clearPins s).pageB = s.pageB := rfl
@[simp] theorem clearPins_activePage (s : State) : (clearPins s).activePage = s.activePage := rfl
@[simp] theorem clearPins_views (s : State) : (clearPins s).views = s.views := rfl
@[simp] theorem clearPins_mismatch (s : State) : (clearPins s).mismatch = s.mismatch := rfl
@[simp] theorem clearPins_air (s : State) : (clearPins s).air = s.air := rfl
@[simp] theorem clearPins_scenes (s : State) : (clearPins s).scenes = s.scenes := rfl
@[simp] theorem clearPins_profiles (s : State) : (clearPins s).profiles = s.profiles := rfl
@[simp] theorem clearPins_light (s : State) : (clearPins s).light = s.light := rfl
@[simp] theorem clearPins_sun (s : State) : (clearPins s).sun = s.sun := rfl
@[simp] theorem clearPins_outputs (s : State) : (clearPins s).outputs = s.outputs := rfl
@[simp] theorem clearPins_lastRequester (s : State) : (clearPins s).lastRequester = s.lastRequester := rfl
@[simp] theorem clearPins_deferred (s : State) : (clearPins s).deferred = s.deferred := rfl
@[simp] theorem clearPins_notices (s : State) : (clearPins s).notices = s.notices := rfl
@[simp] theorem clearPins_params (s : State) : (clearPins s).params = s.params := rfl
@[simp] theorem clearPins_hold (s : State) : (clearPins s).hold = s.hold := rfl
@[simp] theorem clearPins_matchUnits (s : State) : (clearPins s).matchUnits = s.matchUnits := rfl
@[simp] theorem clearPins_captures (s : State) : (clearPins s).captures = s.captures := rfl
@[simp] theorem clearPins_overflow (s : State) : (clearPins s).overflow = s.overflow := rfl
@[simp] theorem clearPins_drive (s : State) : (clearPins s).drive = s.drive := rfl
@[simp] theorem clearPins_driveToggle (s : State) : (clearPins s).driveToggle = s.driveToggle := rfl
@[simp] theorem clearPins_due (s : State) : (clearPins s).due = s.due := rfl
@[simp] theorem clearPins_free (s : State) : (clearPins s).free = s.free := rfl
@[simp] theorem clearPins_pending (s : State) : (clearPins s).pending = s.pending := rfl
@[simp] theorem clearPins_pins (s : State) : (clearPins s).pins = ⟨none, none, false⟩ := rfl
@[simp] theorem clearPins_port (s : State) (p : Port) : (clearPins s).port p = s.port p := by cases p <;> rfl

/-! ### answer (R8) -/

@[simp] theorem answer_room (p : Port) (a : Option Answer) (s : State) : (answer p a s).room = s.room := by
  cases p <;> rfl
@[simp] theorem answer_trunk (p : Port) (a : Option Answer) (s : State) : (answer p a s).trunk = s.trunk := by
  cases p <;> rfl
@[simp] theorem answer_address (p : Port) (a : Option Answer) (s : State) : (answer p a s).address = s.address := by
  cases p <;> rfl
@[simp] theorem answer_trunkSignal (p : Port) (a : Option Answer) (s : State) : (answer p a s).trunkSignal = s.trunkSignal := by
  cases p <;> rfl
@[simp] theorem answer_points (p : Port) (a : Option Answer) (s : State) : (answer p a s).points = s.points := by
  cases p <;> rfl
@[simp] theorem answer_evidence (p : Port) (a : Option Answer) (s : State) : (answer p a s).evidence = s.evidence := by
  cases p <;> rfl
@[simp] theorem answer_partitions (p : Port) (a : Option Answer) (s : State) : (answer p a s).partitions = s.partitions := by
  cases p <;> rfl
@[simp] theorem answer_irradiance (p : Port) (a : Option Answer) (s : State) : (answer p a s).irradiance = s.irradiance := by
  cases p <;> rfl
@[simp] theorem answer_zones (p : Port) (a : Option Answer) (s : State) : (answer p a s).zones = s.zones := by
  cases p <;> rfl
@[simp] theorem answer_overrides (p : Port) (a : Option Answer) (s : State) : (answer p a s).overrides = s.overrides := by
  cases p <;> rfl
@[simp] theorem answer_groups (p : Port) (a : Option Answer) (s : State) : (answer p a s).groups = s.groups := by
  cases p <;> rfl
@[simp] theorem answer_elapsed (p : Port) (a : Option Answer) (s : State) : (answer p a s).elapsed = s.elapsed := by
  cases p <;> rfl
@[simp] theorem answer_clock (p : Port) (a : Option Answer) (s : State) : (answer p a s).clock = s.clock := by
  cases p <;> rfl
@[simp] theorem answer_freeRunning (p : Port) (a : Option Answer) (s : State) : (answer p a s).freeRunning = s.freeRunning := by
  cases p <;> rfl
@[simp] theorem answer_pageA (p : Port) (a : Option Answer) (s : State) : (answer p a s).pageA = s.pageA := by
  cases p <;> rfl
@[simp] theorem answer_pageB (p : Port) (a : Option Answer) (s : State) : (answer p a s).pageB = s.pageB := by
  cases p <;> rfl
@[simp] theorem answer_activePage (p : Port) (a : Option Answer) (s : State) : (answer p a s).activePage = s.activePage := by
  cases p <;> rfl
@[simp] theorem answer_views (p : Port) (a : Option Answer) (s : State) : (answer p a s).views = s.views := by
  cases p <;> rfl
@[simp] theorem answer_mismatch (p : Port) (a : Option Answer) (s : State) : (answer p a s).mismatch = s.mismatch := by
  cases p <;> rfl
@[simp] theorem answer_air (p : Port) (a : Option Answer) (s : State) : (answer p a s).air = s.air := by
  cases p <;> rfl
@[simp] theorem answer_scenes (p : Port) (a : Option Answer) (s : State) : (answer p a s).scenes = s.scenes := by
  cases p <;> rfl
@[simp] theorem answer_profiles (p : Port) (a : Option Answer) (s : State) : (answer p a s).profiles = s.profiles := by
  cases p <;> rfl
@[simp] theorem answer_light (p : Port) (a : Option Answer) (s : State) : (answer p a s).light = s.light := by
  cases p <;> rfl
@[simp] theorem answer_sun (p : Port) (a : Option Answer) (s : State) : (answer p a s).sun = s.sun := by
  cases p <;> rfl
@[simp] theorem answer_outputs (p : Port) (a : Option Answer) (s : State) : (answer p a s).outputs = s.outputs := by
  cases p <;> rfl
@[simp] theorem answer_lastRequester (p : Port) (a : Option Answer) (s : State) : (answer p a s).lastRequester = s.lastRequester := by
  cases p <;> rfl
@[simp] theorem answer_deferred (p : Port) (a : Option Answer) (s : State) : (answer p a s).deferred = s.deferred := by
  cases p <;> rfl
@[simp] theorem answer_notices (p : Port) (a : Option Answer) (s : State) : (answer p a s).notices = s.notices := by
  cases p <;> rfl
@[simp] theorem answer_params (p : Port) (a : Option Answer) (s : State) : (answer p a s).params = s.params := by
  cases p <;> rfl
@[simp] theorem answer_hold (p : Port) (a : Option Answer) (s : State) : (answer p a s).hold = s.hold := by
  cases p <;> rfl
@[simp] theorem answer_matchUnits (p : Port) (a : Option Answer) (s : State) : (answer p a s).matchUnits = s.matchUnits := by
  cases p <;> rfl
@[simp] theorem answer_captures (p : Port) (a : Option Answer) (s : State) : (answer p a s).captures = s.captures := by
  cases p <;> rfl
@[simp] theorem answer_overflow (p : Port) (a : Option Answer) (s : State) : (answer p a s).overflow = s.overflow := by
  cases p <;> rfl
@[simp] theorem answer_drive (p : Port) (a : Option Answer) (s : State) : (answer p a s).drive = s.drive := by
  cases p <;> rfl
@[simp] theorem answer_driveToggle (p : Port) (a : Option Answer) (s : State) : (answer p a s).driveToggle = s.driveToggle := by
  cases p <;> rfl
@[simp] theorem answer_due (p : Port) (a : Option Answer) (s : State) : (answer p a s).due = s.due := by
  cases p <;> rfl
@[simp] theorem answer_free (p : Port) (a : Option Answer) (s : State) : (answer p a s).free = s.free := by
  cases p <;> rfl
@[simp] theorem answer_pending (p : Port) (a : Option Answer) (s : State) : (answer p a s).pending = s.pending := by
  cases p <;> rfl
@[simp] theorem answer_port (p r : Port) (a : Option Answer) (s : State) : (answer p a s).port r = s.port r := by
  cases p <;> cases r <;> rfl

/-! ### withNotice (R180) -/

@[simp] theorem State.withNotice_room (s : State) (k : NoticeKind) (n : Notice) : (s.withNotice k n).room = s.room := rfl
@[simp] theorem State.withNotice_trunk (s : State) (k : NoticeKind) (n : Notice) : (s.withNotice k n).trunk = s.trunk := rfl
@[simp] theorem State.withNotice_address (s : State) (k : NoticeKind) (n : Notice) : (s.withNotice k n).address = s.address := rfl
@[simp] theorem State.withNotice_trunkSignal (s : State) (k : NoticeKind) (n : Notice) : (s.withNotice k n).trunkSignal = s.trunkSignal := rfl
@[simp] theorem State.withNotice_pins (s : State) (k : NoticeKind) (n : Notice) : (s.withNotice k n).pins = s.pins := rfl
@[simp] theorem State.withNotice_points (s : State) (k : NoticeKind) (n : Notice) : (s.withNotice k n).points = s.points := rfl
@[simp] theorem State.withNotice_evidence (s : State) (k : NoticeKind) (n : Notice) : (s.withNotice k n).evidence = s.evidence := rfl
@[simp] theorem State.withNotice_partitions (s : State) (k : NoticeKind) (n : Notice) : (s.withNotice k n).partitions = s.partitions := rfl
@[simp] theorem State.withNotice_irradiance (s : State) (k : NoticeKind) (n : Notice) : (s.withNotice k n).irradiance = s.irradiance := rfl
@[simp] theorem State.withNotice_zones (s : State) (k : NoticeKind) (n : Notice) : (s.withNotice k n).zones = s.zones := rfl
@[simp] theorem State.withNotice_overrides (s : State) (k : NoticeKind) (n : Notice) : (s.withNotice k n).overrides = s.overrides := rfl
@[simp] theorem State.withNotice_groups (s : State) (k : NoticeKind) (n : Notice) : (s.withNotice k n).groups = s.groups := rfl
@[simp] theorem State.withNotice_elapsed (s : State) (k : NoticeKind) (n : Notice) : (s.withNotice k n).elapsed = s.elapsed := rfl
@[simp] theorem State.withNotice_clock (s : State) (k : NoticeKind) (n : Notice) : (s.withNotice k n).clock = s.clock := rfl
@[simp] theorem State.withNotice_freeRunning (s : State) (k : NoticeKind) (n : Notice) : (s.withNotice k n).freeRunning = s.freeRunning := rfl
@[simp] theorem State.withNotice_pageA (s : State) (k : NoticeKind) (n : Notice) : (s.withNotice k n).pageA = s.pageA := rfl
@[simp] theorem State.withNotice_pageB (s : State) (k : NoticeKind) (n : Notice) : (s.withNotice k n).pageB = s.pageB := rfl
@[simp] theorem State.withNotice_activePage (s : State) (k : NoticeKind) (n : Notice) : (s.withNotice k n).activePage = s.activePage := rfl
@[simp] theorem State.withNotice_views (s : State) (k : NoticeKind) (n : Notice) : (s.withNotice k n).views = s.views := rfl
@[simp] theorem State.withNotice_mismatch (s : State) (k : NoticeKind) (n : Notice) : (s.withNotice k n).mismatch = s.mismatch := rfl
@[simp] theorem State.withNotice_air (s : State) (k : NoticeKind) (n : Notice) : (s.withNotice k n).air = s.air := rfl
@[simp] theorem State.withNotice_scenes (s : State) (k : NoticeKind) (n : Notice) : (s.withNotice k n).scenes = s.scenes := rfl
@[simp] theorem State.withNotice_profiles (s : State) (k : NoticeKind) (n : Notice) : (s.withNotice k n).profiles = s.profiles := rfl
@[simp] theorem State.withNotice_light (s : State) (k : NoticeKind) (n : Notice) : (s.withNotice k n).light = s.light := rfl
@[simp] theorem State.withNotice_sun (s : State) (k : NoticeKind) (n : Notice) : (s.withNotice k n).sun = s.sun := rfl
@[simp] theorem State.withNotice_outputs (s : State) (k : NoticeKind) (n : Notice) : (s.withNotice k n).outputs = s.outputs := rfl
@[simp] theorem State.withNotice_lastRequester (s : State) (k : NoticeKind) (n : Notice) : (s.withNotice k n).lastRequester = s.lastRequester := rfl
@[simp] theorem State.withNotice_deferred (s : State) (k : NoticeKind) (n : Notice) : (s.withNotice k n).deferred = s.deferred := rfl
@[simp] theorem State.withNotice_params (s : State) (k : NoticeKind) (n : Notice) : (s.withNotice k n).params = s.params := rfl
@[simp] theorem State.withNotice_hold (s : State) (k : NoticeKind) (n : Notice) : (s.withNotice k n).hold = s.hold := rfl
@[simp] theorem State.withNotice_matchUnits (s : State) (k : NoticeKind) (n : Notice) : (s.withNotice k n).matchUnits = s.matchUnits := rfl
@[simp] theorem State.withNotice_captures (s : State) (k : NoticeKind) (n : Notice) : (s.withNotice k n).captures = s.captures := rfl
@[simp] theorem State.withNotice_overflow (s : State) (k : NoticeKind) (n : Notice) : (s.withNotice k n).overflow = s.overflow := rfl
@[simp] theorem State.withNotice_drive (s : State) (k : NoticeKind) (n : Notice) : (s.withNotice k n).drive = s.drive := rfl
@[simp] theorem State.withNotice_driveToggle (s : State) (k : NoticeKind) (n : Notice) : (s.withNotice k n).driveToggle = s.driveToggle := rfl
@[simp] theorem State.withNotice_due (s : State) (k : NoticeKind) (n : Notice) : (s.withNotice k n).due = s.due := rfl
@[simp] theorem State.withNotice_free (s : State) (k : NoticeKind) (n : Notice) : (s.withNotice k n).free = s.free := rfl
@[simp] theorem State.withNotice_pending (s : State) (k : NoticeKind) (n : Notice) : (s.withNotice k n).pending = s.pending := rfl

/-! ### updateOutput (R157) -/

@[simp] theorem updateOutput_room (i : OutIndex) (f : OutEntry → OutEntry) (s : State) : (updateOutput i f s).room = s.room := rfl
@[simp] theorem updateOutput_trunk (i : OutIndex) (f : OutEntry → OutEntry) (s : State) : (updateOutput i f s).trunk = s.trunk := rfl
@[simp] theorem updateOutput_address (i : OutIndex) (f : OutEntry → OutEntry) (s : State) : (updateOutput i f s).address = s.address := rfl
@[simp] theorem updateOutput_trunkSignal (i : OutIndex) (f : OutEntry → OutEntry) (s : State) : (updateOutput i f s).trunkSignal = s.trunkSignal := rfl
@[simp] theorem updateOutput_pins (i : OutIndex) (f : OutEntry → OutEntry) (s : State) : (updateOutput i f s).pins = s.pins := rfl
@[simp] theorem updateOutput_points (i : OutIndex) (f : OutEntry → OutEntry) (s : State) : (updateOutput i f s).points = s.points := rfl
@[simp] theorem updateOutput_evidence (i : OutIndex) (f : OutEntry → OutEntry) (s : State) : (updateOutput i f s).evidence = s.evidence := rfl
@[simp] theorem updateOutput_partitions (i : OutIndex) (f : OutEntry → OutEntry) (s : State) : (updateOutput i f s).partitions = s.partitions := rfl
@[simp] theorem updateOutput_irradiance (i : OutIndex) (f : OutEntry → OutEntry) (s : State) : (updateOutput i f s).irradiance = s.irradiance := rfl
@[simp] theorem updateOutput_zones (i : OutIndex) (f : OutEntry → OutEntry) (s : State) : (updateOutput i f s).zones = s.zones := rfl
@[simp] theorem updateOutput_overrides (i : OutIndex) (f : OutEntry → OutEntry) (s : State) : (updateOutput i f s).overrides = s.overrides := rfl
@[simp] theorem updateOutput_groups (i : OutIndex) (f : OutEntry → OutEntry) (s : State) : (updateOutput i f s).groups = s.groups := rfl
@[simp] theorem updateOutput_elapsed (i : OutIndex) (f : OutEntry → OutEntry) (s : State) : (updateOutput i f s).elapsed = s.elapsed := rfl
@[simp] theorem updateOutput_clock (i : OutIndex) (f : OutEntry → OutEntry) (s : State) : (updateOutput i f s).clock = s.clock := rfl
@[simp] theorem updateOutput_freeRunning (i : OutIndex) (f : OutEntry → OutEntry) (s : State) : (updateOutput i f s).freeRunning = s.freeRunning := rfl
@[simp] theorem updateOutput_pageA (i : OutIndex) (f : OutEntry → OutEntry) (s : State) : (updateOutput i f s).pageA = s.pageA := rfl
@[simp] theorem updateOutput_pageB (i : OutIndex) (f : OutEntry → OutEntry) (s : State) : (updateOutput i f s).pageB = s.pageB := rfl
@[simp] theorem updateOutput_activePage (i : OutIndex) (f : OutEntry → OutEntry) (s : State) : (updateOutput i f s).activePage = s.activePage := rfl
@[simp] theorem updateOutput_views (i : OutIndex) (f : OutEntry → OutEntry) (s : State) : (updateOutput i f s).views = s.views := rfl
@[simp] theorem updateOutput_mismatch (i : OutIndex) (f : OutEntry → OutEntry) (s : State) : (updateOutput i f s).mismatch = s.mismatch := rfl
@[simp] theorem updateOutput_air (i : OutIndex) (f : OutEntry → OutEntry) (s : State) : (updateOutput i f s).air = s.air := rfl
@[simp] theorem updateOutput_scenes (i : OutIndex) (f : OutEntry → OutEntry) (s : State) : (updateOutput i f s).scenes = s.scenes := rfl
@[simp] theorem updateOutput_profiles (i : OutIndex) (f : OutEntry → OutEntry) (s : State) : (updateOutput i f s).profiles = s.profiles := rfl
@[simp] theorem updateOutput_light (i : OutIndex) (f : OutEntry → OutEntry) (s : State) : (updateOutput i f s).light = s.light := rfl
@[simp] theorem updateOutput_sun (i : OutIndex) (f : OutEntry → OutEntry) (s : State) : (updateOutput i f s).sun = s.sun := rfl
@[simp] theorem updateOutput_lastRequester (i : OutIndex) (f : OutEntry → OutEntry) (s : State) : (updateOutput i f s).lastRequester = s.lastRequester := rfl
@[simp] theorem updateOutput_deferred (i : OutIndex) (f : OutEntry → OutEntry) (s : State) : (updateOutput i f s).deferred = s.deferred := rfl
@[simp] theorem updateOutput_notices (i : OutIndex) (f : OutEntry → OutEntry) (s : State) : (updateOutput i f s).notices = s.notices := rfl
@[simp] theorem updateOutput_params (i : OutIndex) (f : OutEntry → OutEntry) (s : State) : (updateOutput i f s).params = s.params := rfl
@[simp] theorem updateOutput_hold (i : OutIndex) (f : OutEntry → OutEntry) (s : State) : (updateOutput i f s).hold = s.hold := rfl
@[simp] theorem updateOutput_matchUnits (i : OutIndex) (f : OutEntry → OutEntry) (s : State) : (updateOutput i f s).matchUnits = s.matchUnits := rfl
@[simp] theorem updateOutput_captures (i : OutIndex) (f : OutEntry → OutEntry) (s : State) : (updateOutput i f s).captures = s.captures := rfl
@[simp] theorem updateOutput_overflow (i : OutIndex) (f : OutEntry → OutEntry) (s : State) : (updateOutput i f s).overflow = s.overflow := rfl
@[simp] theorem updateOutput_drive (i : OutIndex) (f : OutEntry → OutEntry) (s : State) : (updateOutput i f s).drive = s.drive := rfl
@[simp] theorem updateOutput_driveToggle (i : OutIndex) (f : OutEntry → OutEntry) (s : State) : (updateOutput i f s).driveToggle = s.driveToggle := rfl
@[simp] theorem updateOutput_due (i : OutIndex) (f : OutEntry → OutEntry) (s : State) : (updateOutput i f s).due = s.due := rfl
@[simp] theorem updateOutput_free (i : OutIndex) (f : OutEntry → OutEntry) (s : State) : (updateOutput i f s).free = s.free := rfl
@[simp] theorem updateOutput_pending (i : OutIndex) (f : OutEntry → OutEntry) (s : State) : (updateOutput i f s).pending = s.pending := rfl

/-! ### updatePoint (R22) -/

@[simp] theorem updatePoint_room (c : PointCode) (f : PointEntry → PointEntry) (s : State) : (updatePoint c f s).room = s.room := rfl
@[simp] theorem updatePoint_trunk (c : PointCode) (f : PointEntry → PointEntry) (s : State) : (updatePoint c f s).trunk = s.trunk := rfl
@[simp] theorem updatePoint_address (c : PointCode) (f : PointEntry → PointEntry) (s : State) : (updatePoint c f s).address = s.address := rfl
@[simp] theorem updatePoint_trunkSignal (c : PointCode) (f : PointEntry → PointEntry) (s : State) : (updatePoint c f s).trunkSignal = s.trunkSignal := rfl
@[simp] theorem updatePoint_pins (c : PointCode) (f : PointEntry → PointEntry) (s : State) : (updatePoint c f s).pins = s.pins := rfl
@[simp] theorem updatePoint_evidence (c : PointCode) (f : PointEntry → PointEntry) (s : State) : (updatePoint c f s).evidence = s.evidence := rfl
@[simp] theorem updatePoint_partitions (c : PointCode) (f : PointEntry → PointEntry) (s : State) : (updatePoint c f s).partitions = s.partitions := rfl
@[simp] theorem updatePoint_irradiance (c : PointCode) (f : PointEntry → PointEntry) (s : State) : (updatePoint c f s).irradiance = s.irradiance := rfl
@[simp] theorem updatePoint_zones (c : PointCode) (f : PointEntry → PointEntry) (s : State) : (updatePoint c f s).zones = s.zones := rfl
@[simp] theorem updatePoint_overrides (c : PointCode) (f : PointEntry → PointEntry) (s : State) : (updatePoint c f s).overrides = s.overrides := rfl
@[simp] theorem updatePoint_groups (c : PointCode) (f : PointEntry → PointEntry) (s : State) : (updatePoint c f s).groups = s.groups := rfl
@[simp] theorem updatePoint_elapsed (c : PointCode) (f : PointEntry → PointEntry) (s : State) : (updatePoint c f s).elapsed = s.elapsed := rfl
@[simp] theorem updatePoint_clock (c : PointCode) (f : PointEntry → PointEntry) (s : State) : (updatePoint c f s).clock = s.clock := rfl
@[simp] theorem updatePoint_freeRunning (c : PointCode) (f : PointEntry → PointEntry) (s : State) : (updatePoint c f s).freeRunning = s.freeRunning := rfl
@[simp] theorem updatePoint_pageA (c : PointCode) (f : PointEntry → PointEntry) (s : State) : (updatePoint c f s).pageA = s.pageA := rfl
@[simp] theorem updatePoint_pageB (c : PointCode) (f : PointEntry → PointEntry) (s : State) : (updatePoint c f s).pageB = s.pageB := rfl
@[simp] theorem updatePoint_activePage (c : PointCode) (f : PointEntry → PointEntry) (s : State) : (updatePoint c f s).activePage = s.activePage := rfl
@[simp] theorem updatePoint_views (c : PointCode) (f : PointEntry → PointEntry) (s : State) : (updatePoint c f s).views = s.views := rfl
@[simp] theorem updatePoint_mismatch (c : PointCode) (f : PointEntry → PointEntry) (s : State) : (updatePoint c f s).mismatch = s.mismatch := rfl
@[simp] theorem updatePoint_air (c : PointCode) (f : PointEntry → PointEntry) (s : State) : (updatePoint c f s).air = s.air := rfl
@[simp] theorem updatePoint_scenes (c : PointCode) (f : PointEntry → PointEntry) (s : State) : (updatePoint c f s).scenes = s.scenes := rfl
@[simp] theorem updatePoint_profiles (c : PointCode) (f : PointEntry → PointEntry) (s : State) : (updatePoint c f s).profiles = s.profiles := rfl
@[simp] theorem updatePoint_light (c : PointCode) (f : PointEntry → PointEntry) (s : State) : (updatePoint c f s).light = s.light := rfl
@[simp] theorem updatePoint_sun (c : PointCode) (f : PointEntry → PointEntry) (s : State) : (updatePoint c f s).sun = s.sun := rfl
@[simp] theorem updatePoint_outputs (c : PointCode) (f : PointEntry → PointEntry) (s : State) : (updatePoint c f s).outputs = s.outputs := rfl
@[simp] theorem updatePoint_lastRequester (c : PointCode) (f : PointEntry → PointEntry) (s : State) : (updatePoint c f s).lastRequester = s.lastRequester := rfl
@[simp] theorem updatePoint_deferred (c : PointCode) (f : PointEntry → PointEntry) (s : State) : (updatePoint c f s).deferred = s.deferred := rfl
@[simp] theorem updatePoint_notices (c : PointCode) (f : PointEntry → PointEntry) (s : State) : (updatePoint c f s).notices = s.notices := rfl
@[simp] theorem updatePoint_params (c : PointCode) (f : PointEntry → PointEntry) (s : State) : (updatePoint c f s).params = s.params := rfl
@[simp] theorem updatePoint_hold (c : PointCode) (f : PointEntry → PointEntry) (s : State) : (updatePoint c f s).hold = s.hold := rfl
@[simp] theorem updatePoint_matchUnits (c : PointCode) (f : PointEntry → PointEntry) (s : State) : (updatePoint c f s).matchUnits = s.matchUnits := rfl
@[simp] theorem updatePoint_captures (c : PointCode) (f : PointEntry → PointEntry) (s : State) : (updatePoint c f s).captures = s.captures := rfl
@[simp] theorem updatePoint_overflow (c : PointCode) (f : PointEntry → PointEntry) (s : State) : (updatePoint c f s).overflow = s.overflow := rfl
@[simp] theorem updatePoint_drive (c : PointCode) (f : PointEntry → PointEntry) (s : State) : (updatePoint c f s).drive = s.drive := rfl
@[simp] theorem updatePoint_driveToggle (c : PointCode) (f : PointEntry → PointEntry) (s : State) : (updatePoint c f s).driveToggle = s.driveToggle := rfl
@[simp] theorem updatePoint_due (c : PointCode) (f : PointEntry → PointEntry) (s : State) : (updatePoint c f s).due = s.due := rfl
@[simp] theorem updatePoint_free (c : PointCode) (f : PointEntry → PointEntry) (s : State) : (updatePoint c f s).free = s.free := rfl
@[simp] theorem updatePoint_pending (c : PointCode) (f : PointEntry → PointEntry) (s : State) : (updatePoint c f s).pending = s.pending := rfl

/-! ### updateLight (R141) -/

@[simp] theorem updateLight_room (z : Zone) (f : LightRecord → LightRecord) (s : State) : (updateLight z f s).room = s.room := rfl
@[simp] theorem updateLight_trunk (z : Zone) (f : LightRecord → LightRecord) (s : State) : (updateLight z f s).trunk = s.trunk := rfl
@[simp] theorem updateLight_address (z : Zone) (f : LightRecord → LightRecord) (s : State) : (updateLight z f s).address = s.address := rfl
@[simp] theorem updateLight_trunkSignal (z : Zone) (f : LightRecord → LightRecord) (s : State) : (updateLight z f s).trunkSignal = s.trunkSignal := rfl
@[simp] theorem updateLight_pins (z : Zone) (f : LightRecord → LightRecord) (s : State) : (updateLight z f s).pins = s.pins := rfl
@[simp] theorem updateLight_points (z : Zone) (f : LightRecord → LightRecord) (s : State) : (updateLight z f s).points = s.points := rfl
@[simp] theorem updateLight_evidence (z : Zone) (f : LightRecord → LightRecord) (s : State) : (updateLight z f s).evidence = s.evidence := rfl
@[simp] theorem updateLight_partitions (z : Zone) (f : LightRecord → LightRecord) (s : State) : (updateLight z f s).partitions = s.partitions := rfl
@[simp] theorem updateLight_irradiance (z : Zone) (f : LightRecord → LightRecord) (s : State) : (updateLight z f s).irradiance = s.irradiance := rfl
@[simp] theorem updateLight_zones (z : Zone) (f : LightRecord → LightRecord) (s : State) : (updateLight z f s).zones = s.zones := rfl
@[simp] theorem updateLight_overrides (z : Zone) (f : LightRecord → LightRecord) (s : State) : (updateLight z f s).overrides = s.overrides := rfl
@[simp] theorem updateLight_groups (z : Zone) (f : LightRecord → LightRecord) (s : State) : (updateLight z f s).groups = s.groups := rfl
@[simp] theorem updateLight_elapsed (z : Zone) (f : LightRecord → LightRecord) (s : State) : (updateLight z f s).elapsed = s.elapsed := rfl
@[simp] theorem updateLight_clock (z : Zone) (f : LightRecord → LightRecord) (s : State) : (updateLight z f s).clock = s.clock := rfl
@[simp] theorem updateLight_freeRunning (z : Zone) (f : LightRecord → LightRecord) (s : State) : (updateLight z f s).freeRunning = s.freeRunning := rfl
@[simp] theorem updateLight_pageA (z : Zone) (f : LightRecord → LightRecord) (s : State) : (updateLight z f s).pageA = s.pageA := rfl
@[simp] theorem updateLight_pageB (z : Zone) (f : LightRecord → LightRecord) (s : State) : (updateLight z f s).pageB = s.pageB := rfl
@[simp] theorem updateLight_activePage (z : Zone) (f : LightRecord → LightRecord) (s : State) : (updateLight z f s).activePage = s.activePage := rfl
@[simp] theorem updateLight_views (z : Zone) (f : LightRecord → LightRecord) (s : State) : (updateLight z f s).views = s.views := rfl
@[simp] theorem updateLight_mismatch (z : Zone) (f : LightRecord → LightRecord) (s : State) : (updateLight z f s).mismatch = s.mismatch := rfl
@[simp] theorem updateLight_air (z : Zone) (f : LightRecord → LightRecord) (s : State) : (updateLight z f s).air = s.air := rfl
@[simp] theorem updateLight_scenes (z : Zone) (f : LightRecord → LightRecord) (s : State) : (updateLight z f s).scenes = s.scenes := rfl
@[simp] theorem updateLight_profiles (z : Zone) (f : LightRecord → LightRecord) (s : State) : (updateLight z f s).profiles = s.profiles := rfl
@[simp] theorem updateLight_sun (z : Zone) (f : LightRecord → LightRecord) (s : State) : (updateLight z f s).sun = s.sun := rfl
@[simp] theorem updateLight_outputs (z : Zone) (f : LightRecord → LightRecord) (s : State) : (updateLight z f s).outputs = s.outputs := rfl
@[simp] theorem updateLight_lastRequester (z : Zone) (f : LightRecord → LightRecord) (s : State) : (updateLight z f s).lastRequester = s.lastRequester := rfl
@[simp] theorem updateLight_deferred (z : Zone) (f : LightRecord → LightRecord) (s : State) : (updateLight z f s).deferred = s.deferred := rfl
@[simp] theorem updateLight_notices (z : Zone) (f : LightRecord → LightRecord) (s : State) : (updateLight z f s).notices = s.notices := rfl
@[simp] theorem updateLight_params (z : Zone) (f : LightRecord → LightRecord) (s : State) : (updateLight z f s).params = s.params := rfl
@[simp] theorem updateLight_hold (z : Zone) (f : LightRecord → LightRecord) (s : State) : (updateLight z f s).hold = s.hold := rfl
@[simp] theorem updateLight_matchUnits (z : Zone) (f : LightRecord → LightRecord) (s : State) : (updateLight z f s).matchUnits = s.matchUnits := rfl
@[simp] theorem updateLight_captures (z : Zone) (f : LightRecord → LightRecord) (s : State) : (updateLight z f s).captures = s.captures := rfl
@[simp] theorem updateLight_overflow (z : Zone) (f : LightRecord → LightRecord) (s : State) : (updateLight z f s).overflow = s.overflow := rfl
@[simp] theorem updateLight_drive (z : Zone) (f : LightRecord → LightRecord) (s : State) : (updateLight z f s).drive = s.drive := rfl
@[simp] theorem updateLight_driveToggle (z : Zone) (f : LightRecord → LightRecord) (s : State) : (updateLight z f s).driveToggle = s.driveToggle := rfl
@[simp] theorem updateLight_due (z : Zone) (f : LightRecord → LightRecord) (s : State) : (updateLight z f s).due = s.due := rfl
@[simp] theorem updateLight_free (z : Zone) (f : LightRecord → LightRecord) (s : State) : (updateLight z f s).free = s.free := rfl
@[simp] theorem updateLight_pending (z : Zone) (f : LightRecord → LightRecord) (s : State) : (updateLight z f s).pending = s.pending := rfl

/-! ### accept (R169) -/

@[simp] theorem accept_room (rq : Requester) (s : State) : (accept rq s).room = s.room := by
  simp [accept]
@[simp] theorem accept_trunk (rq : Requester) (s : State) : (accept rq s).trunk = s.trunk := by
  simp [accept]
@[simp] theorem accept_address (rq : Requester) (s : State) : (accept rq s).address = s.address := by
  simp [accept]
@[simp] theorem accept_trunkSignal (rq : Requester) (s : State) : (accept rq s).trunkSignal = s.trunkSignal := by
  simp [accept]
@[simp] theorem accept_points (rq : Requester) (s : State) : (accept rq s).points = s.points := by
  simp [accept]
@[simp] theorem accept_evidence (rq : Requester) (s : State) : (accept rq s).evidence = s.evidence := by
  simp [accept]
@[simp] theorem accept_partitions (rq : Requester) (s : State) : (accept rq s).partitions = s.partitions := by
  simp [accept]
@[simp] theorem accept_irradiance (rq : Requester) (s : State) : (accept rq s).irradiance = s.irradiance := by
  simp [accept]
@[simp] theorem accept_zones (rq : Requester) (s : State) : (accept rq s).zones = s.zones := by
  simp [accept]
@[simp] theorem accept_overrides (rq : Requester) (s : State) : (accept rq s).overrides = s.overrides := by
  simp [accept]
@[simp] theorem accept_groups (rq : Requester) (s : State) : (accept rq s).groups = s.groups := by
  simp [accept]
@[simp] theorem accept_elapsed (rq : Requester) (s : State) : (accept rq s).elapsed = s.elapsed := by
  simp [accept]
@[simp] theorem accept_clock (rq : Requester) (s : State) : (accept rq s).clock = s.clock := by
  simp [accept]
@[simp] theorem accept_freeRunning (rq : Requester) (s : State) : (accept rq s).freeRunning = s.freeRunning := by
  simp [accept]
@[simp] theorem accept_pageA (rq : Requester) (s : State) : (accept rq s).pageA = s.pageA := by
  simp [accept]
@[simp] theorem accept_pageB (rq : Requester) (s : State) : (accept rq s).pageB = s.pageB := by
  simp [accept]
@[simp] theorem accept_activePage (rq : Requester) (s : State) : (accept rq s).activePage = s.activePage := by
  simp [accept]
@[simp] theorem accept_views (rq : Requester) (s : State) : (accept rq s).views = s.views := by
  simp [accept]
@[simp] theorem accept_mismatch (rq : Requester) (s : State) : (accept rq s).mismatch = s.mismatch := by
  simp [accept]
@[simp] theorem accept_air (rq : Requester) (s : State) : (accept rq s).air = s.air := by
  simp [accept]
@[simp] theorem accept_scenes (rq : Requester) (s : State) : (accept rq s).scenes = s.scenes := by
  simp [accept]
@[simp] theorem accept_profiles (rq : Requester) (s : State) : (accept rq s).profiles = s.profiles := by
  simp [accept]
@[simp] theorem accept_light (rq : Requester) (s : State) : (accept rq s).light = s.light := by
  simp [accept]
@[simp] theorem accept_sun (rq : Requester) (s : State) : (accept rq s).sun = s.sun := by
  simp [accept]
@[simp] theorem accept_outputs (rq : Requester) (s : State) : (accept rq s).outputs = s.outputs := by
  simp [accept]
@[simp] theorem accept_deferred (rq : Requester) (s : State) : (accept rq s).deferred = s.deferred := by
  simp [accept]
@[simp] theorem accept_notices (rq : Requester) (s : State) : (accept rq s).notices = s.notices := by
  simp [accept]
@[simp] theorem accept_params (rq : Requester) (s : State) : (accept rq s).params = s.params := by
  simp [accept]
@[simp] theorem accept_hold (rq : Requester) (s : State) : (accept rq s).hold = s.hold := by
  simp [accept]
@[simp] theorem accept_matchUnits (rq : Requester) (s : State) : (accept rq s).matchUnits = s.matchUnits := by
  simp [accept]
@[simp] theorem accept_captures (rq : Requester) (s : State) : (accept rq s).captures = s.captures := by
  simp [accept]
@[simp] theorem accept_overflow (rq : Requester) (s : State) : (accept rq s).overflow = s.overflow := by
  simp [accept]
@[simp] theorem accept_drive (rq : Requester) (s : State) : (accept rq s).drive = s.drive := by
  simp [accept]
@[simp] theorem accept_driveToggle (rq : Requester) (s : State) : (accept rq s).driveToggle = s.driveToggle := by
  simp [accept]
@[simp] theorem accept_due (rq : Requester) (s : State) : (accept rq s).due = s.due := by
  simp [accept]
@[simp] theorem accept_free (rq : Requester) (s : State) : (accept rq s).free = s.free := by
  simp [accept]
@[simp] theorem accept_pending (rq : Requester) (s : State) : (accept rq s).pending = s.pending := by
  simp [accept]
@[simp] theorem accept_lastRequester (rq : Requester) (s : State) :
    (accept rq s).lastRequester = some ⟨rq.line, rq.node, rq.toggle⟩ := rfl
@[simp] theorem accept_port (rq : Requester) (s : State) (p : Port) : (accept rq s).port p = s.port p := by
  cases p <;> simp [State.port]

/-! ### LinePort.enqueue (R10) -/

@[simp] theorem LinePort.admit_up (q : LinePort) (f : Frame) (o : Owner) (r : Bool) : (q.enqueue f o r).up = q.up := rfl
@[simp] theorem LinePort.admit_checkErrors (q : LinePort) (f : Frame) (o : Owner) (r : Bool) : (q.enqueue f o r).checkErrors = q.checkErrors := rfl
@[simp] theorem LinePort.admit_relayDropped (q : LinePort) (f : Frame) (o : Owner) (r : Bool) : (q.enqueue f o r).relayDropped = q.relayDropped := rfl
@[simp] theorem LinePort.admit_cuts (q : LinePort) (f : Frame) (o : Owner) (r : Bool) : (q.enqueue f o r).cuts = q.cuts := rfl
@[simp] theorem LinePort.admit_queue (q : LinePort) (f : Frame) (o : Owner) (r : Bool) :
    (q.enqueue f o r).queue = q.queue ++ [⟨f, o, r, q.nextOrder, false⟩] := rfl
@[simp] theorem LinePort.admit_nextOrder (q : LinePort) (f : Frame) (o : Owner) (r : Bool) :
    (q.enqueue f o r).nextOrder = q.nextOrder + 1 := rfl

end Sys2Proof.Machine
end

