-- ==== Sys2Proof/Laws/Offers.lean ====
section
/-! SUPPORT. What an offer can do (R10), and what the offers that end every event can do (settle): each shared operation's one
lemma, and that offers change nothing where the state is Settled. -/

namespace Sys2Proof.Machine

/-! ### One offer (R10) -/

/-- R10: an offer is admitted exactly where the port is UP with room, and then appends one WAITING frame. -/
theorem offer_cases (p : Port) (f : Frame) (o : Owner) (r : Bool) (s : State) :
    (admits p r s = true ∧ offer p f o r s = some (s.withPort p ((s.port p).enqueue f o r))) ∨
      (admits p r s = false ∧ offer p f o r s = none) := by
  cases h : admits p r s <;> simp [offer, h]

/-- R10: a refused offer. -/
theorem offer_refused {p : Port} {f : Frame} {o : Owner} {r : Bool} {s : State} (h : admits p r s = false) :
    offer p f o r s = none := by simp [offer, h]

/-- R10: an admitted offer. -/
theorem offer_admitted {p : Port} {f : Frame} {o : Owner} {r : Bool} {s : State} (h : admits p r s = true) :
    offer p f o r s = some (s.withPort p ((s.port p).enqueue f o r)) := by simp [offer, h]

/-! ### Notices (R180) -/

/-- The codes of the notice kinds tell them apart. -/
theorem NoticeKind.code_inj {a b : NoticeKind} (h : a.code = b.code) : a = b := by
  cases a <;> cases b <;> first | rfl | (exact absurd h (by decide))

@[simp] theorem State.notice_withNotice_self (s : State) (k : NoticeKind) (n : Notice) :
    (s.withNotice k n).notice k = n := by simp [State.notice, State.withNotice]

theorem State.notice_withNotice_ne (s : State) {k j : NoticeKind} (n : Notice) (h : k ≠ j) :
    (s.withNotice k n).notice j = s.notice j := by
  have hc : k.code.val ≠ j.code.val := fun e => h (NoticeKind.code_inj (Fin.ext e))
  simp [State.notice, State.withNotice, hc]

@[simp] theorem State.notice_withPort (s : State) (p : Port) (q : LinePort) (k : NoticeKind) :
    (s.withPort p q).notice k = s.notice k := by simp [State.notice]

/-- R180: what a raise leaves: the flag set with the new detail, and the mark only where the flag was clear. -/
theorem raise_self (k : NoticeKind) (d : BitVec 24) (s : State) :
    (raise k d s).notice k = ⟨true, some d, (s.notice k).pending || !(s.notice k).flag⟩ := by
  unfold raise
  cases h : (s.notice k).flag <;> simp [h]

/-- R180: a raise of one kind leaves the others. -/
theorem raise_other {k j : NoticeKind} (d : BitVec 24) (s : State) (h : k ≠ j) :
    (raise k d s).notice j = s.notice j := by
  unfold raise
  split <;> exact State.notice_withNotice_ne s _ h

/-! ### Entries of the outbound table -/

theorem findOutput_updateOutput_self (i : OutIndex) (f : OutEntry → OutEntry) (s : State)
    (hf : ∀ e, (f e).index = e.index) :
    findOutput (updateOutput i f s) i = (findOutput s i).map f := by
  unfold findOutput updateOutput
  induction s.outputs with
  | nil => rfl
  | cons e es ih =>
    by_cases h : e.index = i
    · simp [h, hf]
    · simpa [h] using ih

theorem findOutput_updateOutput_ne {i j : OutIndex} (f : OutEntry → OutEntry) (s : State)
    (hf : ∀ e, (f e).index = e.index) (h : i ≠ j) :
    findOutput (updateOutput i f s) j = findOutput s j := by
  unfold findOutput updateOutput
  induction s.outputs with
  | nil => rfl
  | cons e es ih =>
    by_cases hi : e.index = i
    · have hj : e.index ≠ j := fun hj => h (hi ▸ hj)
      simpa [hi, hf, hj, h] using ih
    · by_cases hj : e.index = j
      · subst hj; simp [hi]
      · simpa [hi, hj] using ih

@[simp] theorem findOutput_withPort (s : State) (p : Port) (q : LinePort) (i : OutIndex) :
    findOutput (s.withPort p q) i = findOutput s i := by simp [findOutput]

/-- R162: eligibility reads only these parts of the state. -/
theorem eligible_congr {s t : State} (e : OutEntry) (hu : t.room.up = s.room.up)
    (hd : t.drive.map (·.frame) = s.drive.map (·.frame)) (hh : t.hold = s.hold) (hp : t.params = s.params) :
    eligible t e = eligible s e := by
  have : drivenCode t e.code = drivenCode s e.code := by
    unfold drivenCode
    cases h : s.drive <;> cases h' : t.drive <;> simp_all
  simp [eligible, classRuns, this, hu, hh, hp]

/-! ### What the offers can do -/

theorem OwnAppended.refl (q : LinePort) : OwnAppended q q := ⟨[], by simp, by simp⟩

theorem OwnAppended.trans {q r u : LinePort} (a : OwnAppended q r) (b : OwnAppended r u) : OwnAppended q u := by
  obtain ⟨fs, h1, h2⟩ := a
  obtain ⟨gs, g1, g2⟩ := b
  refine ⟨fs ++ gs, by simp [g1, h1], fun e he => ?_⟩
  rcases List.mem_append.mp he with h | h
  · exact h2 e h
  · exact g2 e h

theorem OwnAppended.enqueue (q : LinePort) (f : Frame) (o : Owner) : OwnAppended q (q.enqueue f o false) :=
  ⟨[⟨f, o, false, q.nextOrder, false⟩], rfl, by simp⟩

theorem OffersFrame.refl (s : State) : OffersFrame s s := rfl

theorem OffersFrame.trans {s t u : State} (a : OffersFrame s t) (b : OffersFrame t u) : OffersFrame s u := by
  unfold OffersFrame at *
  rw [b, a]

theorem Offered.refl (s : State) : Offered s s :=
  ⟨.refl s, .refl _, .refl _, fun _ => .inl rfl, fun _ => ⟨rfl, rfl⟩, fun _ => rfl, rfl, .inl rfl⟩

theorem OffersFrame.fixed {s t : State} (h : OffersFrame s t) :
    t.room.up = s.room.up ∧ t.trunk.up = s.trunk.up ∧ t.hold = s.hold ∧ t.params = s.params := by
  unfold OffersFrame at h
  rw [h]
  exact ⟨rfl, rfl, rfl, rfl⟩

theorem Offered.eligible {s t : State} (h : Offered s t) (e : OutEntry) :
    Machine.eligible t e = Machine.eligible s e :=
  have ⟨hu, _, hh, hp⟩ := h.frame.fixed
  eligible_congr e hu h.drive hh hp

theorem Offered.trans {s t u : State} (a : Offered s t) (b : Offered t u) : Offered s u where
  frame := a.frame.trans b.frame
  room := a.room.trans b.room
  trunk := a.trunk.trans b.trunk
  outputs i := by
    rcases b.outputs i with hb | ⟨e, n, he, hel, hb⟩
    · rw [hb]; exact a.outputs i
    · rcases a.outputs i with ha | ⟨e', m, -, -, ha⟩
      · exact .inr ⟨e, n, ha ▸ he, a.eligible e ▸ hel, hb⟩
      · obtain rfl : e'.admitted m = e := by simpa [ha] using he
        simp [Machine.eligible, OutEntry.admitted] at hel
  notices k := ⟨(b.notices k).1.trans (a.notices k).1, (b.notices k).2.trans (a.notices k).2⟩
  groups z := (b.groups z).trans (a.groups z)
  drive := b.drive.trans a.drive
  deferred := by
    rcases b.deferred with h | h
    · rw [h]; exact a.deferred
    · exact .inr h

/-- An own frame that a port takes is an offer of the kind that ends an event. -/
theorem Offered.ofAdmit (p : Port) (f : Frame) (o : Owner) (s : State) :
    Offered s (s.withPort p ((s.port p).enqueue f o false)) := by
  cases p
  · exact ⟨rfl, .enqueue _ f o, .refl _, fun _ => .inl rfl, fun _ => ⟨rfl, rfl⟩, fun _ => rfl, rfl, .inl rfl⟩
  · exact ⟨rfl, .refl _, .enqueue _ f o, fun _ => .inl rfl, fun _ => ⟨rfl, rfl⟩, fun _ => rfl, rfl, .inl rfl⟩

/-- A fold of steps that each only offer. -/
theorem Offered.foldl {α : Type} {f : State → α → State} (h : ∀ s a, Offered s (f s a)) (l : List α) (s : State) :
    Offered s (l.foldl f s) := by
  induction l generalizing s with
  | nil => exact .refl s
  | cons a l ih => exact (h s a).trans (ih (f s a))

theorem offerDeferred_offered (p : Port) (s : State) : Offered s (offerDeferred p s) := by
  unfold offerDeferred
  cases hd : s.deferred with
  | none => exact .refl s
  | some d =>
    cases ho : d.outcome with
    | none => simpa [ho] using Offered.refl s
    | some o =>
      by_cases hp : d.port = p
      · rcases offer_cases p (replyFrame s d.line d.node d.priority 26 .ok [driveOutcomeCode o]) .reply false s with
          ⟨-, h⟩ | ⟨-, h⟩
        · simp only [ho, hp, h, ↓reduceIte]
          refine (Offered.ofAdmit p (replyFrame s d.line d.node d.priority 26 .ok [driveOutcomeCode o]) .reply s).trans ?_
          exact ⟨rfl, .refl _, .refl _, fun _ => .inl rfl, fun _ => ⟨rfl, rfl⟩, fun _ => rfl, rfl, .inr rfl⟩
        · simp only [ho, hp, h, ↓reduceIte]; exact .refl s
      · simpa [ho, hp] using Offered.refl s

theorem offerNotice_offered (s : State) (k : NoticeKind) : Offered s (offerNotice s k) := by
  unfold offerNotice
  split
  · rcases offer_cases .trunk (noticeFrame s k) (.notice k) false s with ⟨-, h⟩ | ⟨-, h⟩
    · rw [h]
      refine (Offered.ofAdmit .trunk _ (.notice k) s).trans
        ⟨rfl, .refl _, .refl _, fun _ => .inl rfl, fun j => ?_, fun _ => rfl, rfl, .inl rfl⟩
      by_cases hj : k = j
      · subst hj; simp
      · simp [State.notice_withNotice_ne _ _ hj]
    · rw [h]; exact .refl s
  · exact .refl s

theorem offerReport_offered (s : State) (l : Zone) : Offered s (offerReport s l) := by
  unfold offerReport
  split
  · rename_i g hg
    split
    · rcases offer_cases .trunk (reportFrame s l g) (.report l) false s with ⟨-, h⟩ | ⟨-, h⟩
      · rw [h]
        refine (Offered.ofAdmit .trunk _ (.report l) s).trans
          ⟨rfl, .refl _, .refl _, fun _ => .inl rfl, fun _ => ⟨rfl, rfl⟩, fun z => ?_, rfl, .inl rfl⟩
        by_cases hz : l = z
        · subst hz; simp [hg, Group.unmarked]
        · have : l.val ≠ z.val := fun e => hz (Fin.ext e)
          simp [this]
      · rw [h]; exact .refl s
    · exact .refl s
  · exact .refl s

theorem offerDrive_offered (s : State) : Offered s (offerDrive s) := by
  unfold offerDrive
  split
  · rename_i d hd
    split
    · exact .refl s
    · rcases offer_cases .room d.frame .drive false s with ⟨-, h⟩ | ⟨-, h⟩
      · rw [h]
        refine (Offered.ofAdmit .room _ .drive s).trans
          ⟨rfl, .refl _, .refl _, fun _ => .inl rfl, fun _ => ⟨rfl, rfl⟩, fun _ => rfl, ?_, .inl rfl⟩
        simp [hd]
      · rw [h]; exact .refl s
  · exact .refl s

theorem admitOutput_offered (s : State) (i : OutIndex) : Offered s (admitOutput s i) := by
  unfold admitOutput
  split
  · rename_i e he
    split
    · rename_i hel
      rcases offer_cases .room (outputFrame s e (e.frameValue s.free)) (.output i) false s with ⟨-, h⟩ | ⟨-, h⟩
      · rw [h]
        refine (Offered.ofAdmit .room _ (.output i) s).trans
          ⟨rfl, .refl _, .refl _, fun j => ?_, fun _ => ⟨rfl, rfl⟩, fun _ => rfl, rfl, .inl rfl⟩
        by_cases hj : i = j
        · subst hj
          refine .inr ⟨e, s.free, by simpa using he, ?_, ?_⟩
          · rw [← hel]; exact (Offered.ofAdmit .room _ (.output i) s).eligible e
          · show findOutput (updateOutput i (OutEntry.admitted s.free) _) i = _
            rw [findOutput_updateOutput_self i (OutEntry.admitted s.free) _ (fun _ => rfl)]
            simp [he]
        · exact .inl (findOutput_updateOutput_ne _ _ (fun _ => rfl) hj)
      · rw [h]; exact .refl s
    · exact .refl s
  · exact .refl s

theorem arbiter_offered (s : State) : Offered s (arbiter s) := Offered.foldl admitOutput_offered _ s

theorem settleTrunk_offered (s : State) : Offered s (settleTrunk s) :=
  ((offerDeferred_offered .trunk s).trans (Offered.foldl offerNotice_offered _ _)).trans
    (Offered.foldl offerReport_offered _ _)

theorem offerOthers_offered (s : State) : Offered s (offerOthers s) :=
  (offerDeferred_offered .room s).trans (offerDrive_offered _)

/-- Using a free value is no offer and no effect. -/
theorem Offered.useFree (s : State) : Offered s { s with free := s.free + 1 } :=
  ⟨rfl, .refl _, .refl _, fun _ => .inl rfl, fun _ => ⟨rfl, rfl⟩, fun _ => rfl, rfl, .inl rfl⟩

theorem settleRoom_offered (s : State) : Offered s (settleRoom s) := by
  unfold settleRoom
  split
  · split
    · exact ((Offered.useFree s).trans (arbiter_offered _)).trans (offerOthers_offered _)
    · exact ((Offered.useFree s).trans (offerOthers_offered _)).trans (arbiter_offered _)
  · exact (offerOthers_offered s).trans (arbiter_offered _)

/-- All that the offers at the end of an event can do. -/
theorem settle_offered (s : State) : Offered s (settle s) :=
  (settleTrunk_offered s).trans (settleRoom_offered _)

/-! ### Where nothing is left to offer -/

theorem foldl_fixed {α : Type} {f : State → α → State} {s : State} {l : List α} (h : ∀ a ∈ l, f s a = s) :
    l.foldl f s = s := by
  induction l with
  | nil => rfl
  | cons a l ih =>
    rw [List.foldl_cons, h a (by simp), ih fun b hb => h b (by simp [hb])]

theorem offerDeferred_settled {s : State} (h : Settled s) (p : Port) : offerDeferred p s = s := by
  unfold offerDeferred
  cases hd : s.deferred with
  | none => rfl
  | some d =>
    cases ho : d.outcome with
    | none => simp [ho]
    | some o =>
      by_cases hp : d.port = p
      · have : admits d.port false s = false := h.1 d (by simp [hd]) (by simp [ho])
        simp [ho, hp, offer_refused (hp ▸ this)]
      · simp [ho, hp]

theorem offerNotice_settled {s : State} (h : Settled s) (k : NoticeKind) : offerNotice s k = s := by
  unfold offerNotice
  cases hp : (s.notice k).pending with
  | false => simp
  | true =>
    have : admits .trunk false s = false := by
      cases ha : admits .trunk false s with
      | false => rfl
      | true =>
        have := (h.2.1 ha).1 k (by cases k <;> simp [allNotices])
        simp [hp] at this
    simp [offer_refused this]

theorem offerReport_settled {s : State} (h : Settled s) (l : Zone) : offerReport s l = s := by
  unfold offerReport
  cases hg : s.groups[l] with
  | none => rfl
  | some g =>
    cases hp : g.reportPending with
    | false => simp [hp]
    | true =>
      have : admits .trunk false s = false := by
        cases ha : admits .trunk false s with
        | false => rfl
        | true =>
          have := (h.2.1 ha).2 l g (by simp [hg])
          simp [hp] at this
      simp [hp, offer_refused this]

theorem offerDrive_settled {s : State} (h : Settled s) : offerDrive s = s := by
  unfold offerDrive
  cases hd : s.drive with
  | none => rfl
  | some d =>
    cases hq : d.queued with
    | true => simp [hq]
    | false =>
      have : admits .room false s = false := by
        cases ha : admits .room false s with
        | false => rfl
        | true =>
          have := (h.2.2 ha).1 d (by simp [hd])
          simp [hq] at this
      simp [hq, offer_refused this]

theorem admitOutput_settled {s : State} (h : Settled s) (i : OutIndex) : admitOutput s i = s := by
  unfold admitOutput
  cases he : findOutput s i with
  | none => rfl
  | some e =>
    cases hel : eligible s e with
    | false => simp [hel]
    | true =>
      have : admits .room false s = false := by
        cases ha : admits .room false s with
        | false => rfl
        | true =>
          have := (h.2.2 ha).2 e (List.mem_of_find?_eq_some he)
          simp [hel] at this
      simp [hel, offer_refused this]

theorem arbiter_settled {s : State} (h : Settled s) : arbiter s = s :=
  foldl_fixed fun i _ => admitOutput_settled h i

/-- In a Settled state the offers of an event change nothing. -/
theorem settle_settled {s : State} (h : Settled s) : settle s = s := by
  have ht : settleTrunk s = s := by
    unfold settleTrunk offerNotices offerReports
    rw [offerDeferred_settled h, foldl_fixed fun k _ => offerNotice_settled h k,
      foldl_fixed fun l _ => offerReport_settled h l]
  have ho : offerOthers s = s := by
    unfold offerOthers
    rw [offerDeferred_settled h, offerDrive_settled h]
  have hc : roomContended s = false := by
    unfold roomContended
    cases ha : admits .room false s with
    | false => simp
    | true =>
      have := (h.2.2 ha).2
      have hn : s.outputs.any (eligible s) = false := by
        simpa [List.any_eq_false] using fun e he => this e he
      simp [hn]
  unfold settle settleRoom
  rw [ht, hc, ho]
  simpa using arbiter_settled h

end Sys2Proof.Machine
end

