-- ==== Sys2Proof/Laws/Commission.lean ====
section
/-! SUPPORT. What the match units do when a frame is shown to them (R185, R186): the fields they can touch, and that without a
match they touch nothing. -/

namespace Sys2Proof.Machine

theorem ShownFrame.refl (s : State) : ShownFrame s s := rfl

theorem ShownFrame.trans {s t u : State} (a : ShownFrame s t) (b : ShownFrame t u) : ShownFrame s u := by
  unfold ShownFrame at *
  rw [b, a]

/-- R180: a raise touches the notice set only. -/
theorem raise_shown (k : NoticeKind) (d : BitVec 24) (s : State) : ShownFrame s (raise k d s) := by
  unfold raise
  split <;> rfl

theorem enterHold_shown (n : Nat) (s : State) : ShownFrame s (enterHold n s) := by
  unfold enterHold
  split
  · exact .refl s
  · exact .trans (t := { s with hold := true }) rfl (raise_shown _ _ _)

theorem addCapture_shown (d : Bool) (p : Port) (f : Frame) (n : Nat) (s : State) :
    ShownFrame s (addCapture d p f n s) := by
  unfold addCapture
  split
  · rfl
  · refine .trans ?_ (raise_shown _ _ _)
    rfl

theorem showUnit_shown (d : Bool) (p : Port) (f : Frame) (s : State) (u : Fin 5) : ShownFrame s (showUnit d p f s u) := by
  unfold showUnit
  dsimp only
  split
  · have h : ShownFrame s { s with matchUnits := s.matchUnits.set u { s.matchUnits[u] with hits := bump s.matchUnits[u].hits } } :=
      rfl
    split
    · exact (h.trans (addCapture_shown ..)).trans (enterHold_shown ..)
    · exact h.trans (addCapture_shown ..)
  · exact .refl s

theorem foldl_shown {α : Type} {f : State → α → State} (h : ∀ s a, ShownFrame s (f s a)) (l : List α) (s : State) :
    ShownFrame s (l.foldl f s) := by
  induction l generalizing s with
  | nil => exact .refl s
  | cons a l ih => exact (h s a).trans (ih (f s a))

/-- R185: all that showing a frame can touch. -/
theorem showFrame_shown (d : Bool) (p : Port) (f : Frame) (s : State) : ShownFrame s (showFrame d p f s) :=
  foldl_shown (showUnit_shown d p f) _ s

/-- R185: a unit that the frame does not match does nothing. -/
theorem showUnit_unmatched {d : Bool} {p : Port} {f : Frame} {s : State} {u : Fin 5}
    (h : (s.matchUnits[u]).hitBy p f = false) : showUnit d p f s u = s := by
  unfold showUnit
  dsimp only
  rw [h]
  rfl

/-- R185: a frame that no unit matches is shown without effect. -/
theorem showFrame_unmatched {d : Bool} {p : Port} {f : Frame} {s : State}
    (h : ∀ u : Fin 5, (s.matchUnits[u]).hitBy p f = false) : showFrame d p f s = s :=
  foldl_fixed fun u _ => showUnit_unmatched (h u)

/-- R185: what an arrival leaves before it is handled, apart from the match units' work, is the state without driven pins. -/
theorem arrivedAt_shown (p : Port) (f : Frame) (s : State) : ShownFrame (clearPins s) (arrivedAt p f s) :=
  showFrame_shown false p f _

theorem arrivedAt_unmatched {p : Port} {f : Frame} {s : State} (h : ∀ u : Fin 5, (s.matchUnits[u]).hitBy p f = false) :
    arrivedAt p f s = clearPins s := showFrame_unmatched h

/-! ### A ShownFrame field by field -/

theorem ShownFrame.port {s t : State} (h : ShownFrame s t) (p : Port) : t.port p = s.port p := by
  rw [h]; cases p <;> rfl
theorem ShownFrame.points {s t : State} (h : ShownFrame s t) : t.points = s.points := by rw [h]
theorem ShownFrame.address {s t : State} (h : ShownFrame s t) : t.address = s.address := by rw [h]
theorem ShownFrame.outputs {s t : State} (h : ShownFrame s t) : t.outputs = s.outputs := by rw [h]
theorem ShownFrame.params {s t : State} (h : ShownFrame s t) : t.params = s.params := by rw [h]
theorem ShownFrame.lastRequester {s t : State} (h : ShownFrame s t) : t.lastRequester = s.lastRequester := by rw [h]
theorem ShownFrame.deferred {s t : State} (h : ShownFrame s t) : t.deferred = s.deferred := by rw [h]
theorem ShownFrame.drive {s t : State} (h : ShownFrame s t) : t.drive = s.drive := by rw [h]
theorem ShownFrame.groups {s t : State} (h : ShownFrame s t) : t.groups = s.groups := by rw [h]
theorem ShownFrame.elapsed {s t : State} (h : ShownFrame s t) : t.elapsed = s.elapsed := by rw [h]
theorem ShownFrame.pending {s t : State} (h : ShownFrame s t) : t.pending = s.pending := by rw [h]

end Sys2Proof.Machine
end

