-- ==== Sys2Proof/Laws/Step.lean ====
section
/-! SUPPORT. The step by the queue of waiting commands, and what an event is (log 2, log 6). -/

namespace Sys2Proof.Machine

theorem step_cons {c : Instr} {rest : List Instr} {s : State} (h : s.pending = c :: rest) :
    step s = exec c { s with pending := rest } := by simp [step, h]

theorem step_nil {s : State} (h : s.pending = []) : step s = .next s := by simp [step, h]

/-- An event is its effect on the state without driven pins, then the offers it prompts. -/
theorem event_eq (f : State → State) (s : State) : event f s = .next (settle (f (clearPins s))) := rfl

/-- A command that is an event ends in its effect, but for the offers. -/
theorem endsIn_event {c : Instr} {f : State → State} {s : State} (h : exec c s = event f s) :
    EndsIn c s (f (clearPins s)) :=
  ⟨_, h.trans (event_eq f s), settle_offered _, settle_settled⟩

/-- An event whose effect leaves nothing to offer is its effect. -/
theorem event_settled {f : State → State} {s : State} (h : Settled (f (clearPins s))) :
    event f s = .next (f (clearPins s)) := by rw [event_eq, settle_settled h]

end Sys2Proof.Machine
end

