-- ==== Sys2Proof/Laws/Manage.lean ====
section
/-! SUPPORT. What a request command can do (R169, R171, R172): the responder's tests turn it away, or it is accepted, performed
and its reply admitted. -/

namespace Sys2Proof.Machine

/-- R172: the order of tests: nothing fails, or the first that fails decides. -/
theorem firstFailing_none {l : List (Bool × Result)} (h : ∀ x ∈ l, x.1 = false) : firstFailing l = none := by
  induction l with
  | nil => rfl
  | cons x l ih =>
    obtain ⟨f, r⟩ := x
    have hf : f = false := h (f, r) (by simp)
    subst hf
    exact ih fun y hy => h y (by simp [hy])

@[simp] theorem tested_none (f : State → Performed) (s : State) : tested none f s = f s := rfl
@[simp] theorem tested_some (r : Result) (f : State → Performed) (s : State) : tested (some r) f s = refuse r s := rfl

/-- A request performed with tests keeps the state or is performed. -/
theorem tested_cases (r : Option Result) (f : State → Performed) (s : State) :
    (∃ e, r = some e ∧ tested r f s = (s, some (e, []))) ∨ (r = none ∧ tested r f s = f s) := by
  cases r with
  | none => exact .inr ⟨rfl, rfl⟩
  | some e => exact .inl ⟨e, rfl, rfl⟩

/-- R171: the frame of a reply, field by field, is the MANAGE_REPLY the device builds. -/
theorem replyFrame_eq (rq : Requester) (code : Byte) (r : Result) (data : List Byte) (s : State) :
    replyFrame s rq.line rq.node rq.priority code r data = replyFields rq code r data s := rfl

/-- Arrival and acceptance change neither port. -/
@[simp] theorem acceptedBy_port (rq : Requester) (v : List Byte) (p : Port) (s : State) :
    (acceptedBy rq v s).port p = s.port p := by
  simp only [acceptedBy, accept_port]
  exact ((arrivedAt_shown rq.port (requestFrame rq v s) s).port p).trans (clearPins_port s p)

/-- R169: an accepted request: its performance on what arrival and acceptance leave, and its reply offered. -/
theorem request_accepted {rq : Requester} {v : List Byte} {s : State} (h : Accepted rq v s)
    (perform : State → Performed) :
    request rq v perform (clearPins s) = replyTo rq (valueCode v) (perform (acceptedBy rq v s)) := by
  obtain ⟨hr, hc, hp, hl, hq⟩ := h
  have hs : ShownFrame (clearPins s) (arrivedBy rq v s) := arrivedAt_shown _ _ _
  have h0 : receiving rq.port (clearPins s) = true := hr
  have h1 : portRefused rq (valueCode v) (arrivedBy rq v s) = false := by
    show (rq.port == .room && !(arrivedBy rq v s).hold && valueCode v != 24) = false
    cases hport : rq.port with
    | trunk => rfl
    | room => rcases hp hport with h | h <;> simp [h]
  have h2 : isRepeat rq (arrivedBy rq v s) = false := by
    unfold isRepeat
    rw [hs.lastRequester]
    simpa using hl
  have h3 : noReplyRoom rq (valueCode v) (arrivedBy rq v s) = false := by
    simp only [noReplyRoom, hs.port, clearPins_port]
    simp only [Bool.and_eq_false_imp, decide_eq_false_iff_not]
    intro _
    omega
  have ha : showFrame false rq.port (requestFrame rq v (clearPins s)) (clearPins s) = arrivedBy rq v s := rfl
  simp [request, respond, h0, hc, ha, h1, h2, h3, acceptedBy]

/-- R169, R171: an accepted request whose performance leaves the port as it was has its reply admitted. -/
theorem request_replied {rq : Requester} {v : List Byte} {s t : State} {r : Result} {data : List Byte}
    {perform : State → Performed} (h : Accepted rq v s) (hc : valueCode v ≠ 28)
    (hp : perform (acceptedBy rq v s) = (t, some (r, data))) (hport : t.port rq.port = s.port rq.port) :
    request rq v perform (clearPins s) = withReply rq (valueCode v) r data t := by
  have hup : (s.port rq.port).up = true := by
    have := h.1
    simp only [receiving, Bool.and_eq_true] at this
    exact this.1
  have ha : admits rq.port false t = true := by simp [admits, hasRoom, hport, hup, h.2.2.2.2]
  rw [request_accepted h, hp]
  simp only [replyTo, if_neg hc, sendReply, offer_admitted ha, replyFrame_eq, withReply, Option.getD_some]

/-- A request answered with no change of state besides the acceptance. -/
theorem request_refused {rq : Requester} {v : List Byte} {s : State} {r : Result} {perform : State → Performed}
    (h : Accepted rq v s) (hc : valueCode v ≠ 28)
    (hp : perform (acceptedBy rq v s) = refuse r (acceptedBy rq v s)) :
    request rq v perform (clearPins s) = withReply rq (valueCode v) r [] (acceptedBy rq v s) :=
  request_replied h hc hp (acceptedBy_port rq v rq.port s)

/-- R169, R171: a command that is an accepted request, whose performance leaves the port as it was, ends with its reply in the
queue. -/
theorem endsIn_reply {c : Instr} {rq : Requester} {v : List Byte} {s t : State} {r : Result} {data : List Byte}
    {perform : State → Performed} (he : exec c s = requested rq v perform s) (h : Accepted rq v s)
    (hc : valueCode v ≠ 28) (hp : perform (acceptedBy rq v s) = (t, some (r, data)))
    (hport : t.port rq.port = s.port rq.port) : EndsIn c s (withReply rq (valueCode v) r data t) := by
  have := request_replied h hc hp hport
  rw [← this]
  exact endsIn_event he

/-- A frame behind a queue makes no room: what admits after it admitted before. -/
theorem admits_of_enqueue {p q : Port} {f : Frame} {o : Owner} {r : Bool} {s : State}
    (h : admits p false (s.withPort q ((s.port q).enqueue f o r)) = true) : admits p false s = true := by
  have hu : ((s.withPort q ((s.port q).enqueue f o r)).port p).up = (s.port p).up := by
    cases p <;> cases q <;> rfl
  have hl : (s.port p).queue.length ≤ ((s.withPort q ((s.port q).enqueue f o r)).port p).queue.length := by
    cases p <;> cases q <;> simp [LinePort.enqueue]
  simp only [admits, hasRoom, Bool.not_false, Bool.true_or, Bool.and_true, Bool.and_eq_true, decide_eq_true_eq] at h ⊢
  exact ⟨hu ▸ h.1, Nat.lt_of_le_of_lt hl h.2⟩

/-- What nothing had to offer still has nothing behind one more frame. -/
theorem Settled.enqueue {s : State} (h : Settled s) (q : Port) (f : Frame) (o : Owner) (r : Bool) :
    Settled (s.withPort q ((s.port q).enqueue f o r)) := by
  obtain ⟨hd, ht, hr⟩ := h
  refine ⟨fun d hm ho => ?_, fun ha => ?_, fun ha => ?_⟩
  · have := hd d (by simpa using hm) ho
    cases ha : admits d.port false (s.withPort q ((s.port q).enqueue f o r)) with
    | false => rfl
    | true => exact absurd (admits_of_enqueue ha) (by simp [this])
  · have := ht (admits_of_enqueue ha)
    simpa using this
  · have h2 := hr (admits_of_enqueue ha)
    have hu : ∀ e, eligible (s.withPort q ((s.port q).enqueue f o r)) e = eligible s e := by
      intro e
      apply eligible_congr <;> cases q <;> rfl
    simpa [hu] using h2

/-- Acceptance leaves nothing to offer where the arrival leaves nothing. -/
theorem Settled.accept {s : State} (h : Settled s) (rq : Requester) : Settled (Machine.accept rq s) := by
  have ha : ∀ p, admits p false (Machine.accept rq s) = admits p false s := fun p => by simp [admits]
  obtain ⟨hd, ht, hr⟩ := h
  refine ⟨?_, ?_, ?_⟩
  · intro d hm ho
    rw [ha]
    exact hd d (by simpa using hm) ho
  · intro hadm
    rw [ha] at hadm
    simpa [State.notice] using ht hadm
  · intro hadm
    rw [ha] at hadm
    have h2 := hr hadm
    have hu : ∀ e, eligible (Machine.accept rq s) e = eligible s e := by
      intro e
      apply eligible_congr <;> (unfold Machine.accept; cases rq.port <;> rfl)
    have ho : (Machine.accept rq s).outputs = s.outputs := by simp
    have hdr : (Machine.accept rq s).drive = s.drive := by simp
    exact ⟨hdr ▸ h2.1, fun e he => (hu e).trans (h2.2 e (ho ▸ he))⟩

end Sys2Proof.Machine
end

