-- ==== Sys2Proof/Laws/Queues.lean ====
section
/-! SUPPORT. What admission does to a transmit queue (R10, R11): an admitted frame keeps its bounds and its order. -/

namespace Sys2Proof.Machine

@[simp] theorem relayedCount_nil : relayedCount [] = 0 := rfl

@[simp] theorem relayedCount_append (q r : List Queued) : relayedCount (q ++ r) = relayedCount q + relayedCount r := by
  simp [relayedCount]

@[simp] theorem relayedCount_singleton (e : Queued) : relayedCount [e] = if e.relayed then 1 else 0 := by
  cases h : e.relayed <;> simp [relayedCount, h]

/-- A queue holds at most as many relayed frames after frames were taken from it. -/
theorem relayedCount_filter_le (f : Queued → Bool) (q : List Queued) : relayedCount (q.filter f) ≤ relayedCount q := by
  unfold relayedCount
  rw [List.filter_filter, ← List.countP_eq_length_filter, ← List.countP_eq_length_filter]
  exact List.countP_mono_left fun e _ h => by simp_all

/-- R10: an admitted frame keeps the capacity and the relay share. -/
theorem QueueBounded.enqueue {p : Port} {q : LinePort} (h : QueueBounded p q) {r : Bool} (hr : hasRoom p r q.queue = true)
    (f : Frame) (o : Owner) : QueueBounded p (q.enqueue f o r) := by
  obtain ⟨-, hs⟩ := h
  simp only [hasRoom, Bool.and_eq_true, decide_eq_true_eq] at hr
  refine ⟨?_, ?_⟩
  · simp only [LinePort.enqueue, List.length_append, List.length_singleton]; omega
  · cases r <;> simp_all [LinePort.enqueue]

/-- R10, R11: an admitted frame keeps the order of admission and adds no SENDING frame. -/
theorem QueueOrdered.enqueue {q : LinePort} (h : QueueOrdered q) (f : Frame) (o : Owner) (r : Bool) :
    QueueOrdered (q.enqueue f o r) := by
  obtain ⟨ho, hn, hs⟩ := h
  refine ⟨?_, ?_, ?_⟩
  · simp only [LinePort.enqueue, List.pairwise_append, List.pairwise_singleton, List.mem_singleton]
    exact ⟨ho, trivial, fun a ha b hb => hb ▸ hn a ha⟩
  · intro e he
    rcases List.mem_append.mp he with h | h
    · exact Nat.lt_succ_of_lt (hn e h)
    · rw [List.mem_singleton.mp h]; exact Nat.lt_succ_self _
  · simpa [LinePort.enqueue] using hs

/-- R11: frames taken from a queue leave it in order. -/
theorem QueueOrdered.filter {q : LinePort} (h : QueueOrdered q) (f : Queued → Bool) :
    QueueOrdered { q with queue := q.queue.filter f } := by
  obtain ⟨ho, hn, hs⟩ := h
  refine ⟨ho.filter f, fun e he => hn e (List.mem_filter.mp he).1, ?_⟩
  refine Nat.le_trans ?_ hs
  show ((q.queue.filter f).filter (·.sending)).length ≤ _
  rw [List.filter_filter, ← List.countP_eq_length_filter, ← List.countP_eq_length_filter]
  exact List.countP_mono_left fun e _ h => by simp_all

/-- R10: an admitted offer leaves a port that was UP UP, and takes it no further than its bounds. -/
theorem offer_bounded {p : Port} {f : Frame} {o : Owner} {r : Bool} {s t : State} (h : offer p f o r s = some t)
    (hb : QueueBounded p (s.port p)) : QueueBounded p (t.port p) := by
  unfold offer at h
  split at h
  · rename_i ha
    cases h
    rw [State.port_withPort_self]
    exact hb.enqueue (by simp [admits] at ha; exact ha.2) f o
  · cases h

/-- R19: a count within its range stays there. -/
theorem bump_le {n : Nat} (h : n ≤ 65535) : bump n ≤ 65535 := by
  unfold bump Config.countTop
  split <;> omega

end Sys2Proof.Machine
end

