-- ==== Sys2Proof/Laws/Relay.lean ====
section
/-! SUPPORT. What the relay engine can do with a frame (R10, R15, R29, R36): a relay is relayedAcross; and when a frame that
arrives, or wins an arbitration, is received (R6, R11). -/

namespace Sys2Proof.Machine

/-- The relay room of a port that is UP is its admission of a relayed frame. -/
theorem admits_relayed_iff (p : Port) (s : State) (up : (s.port p).up = true) :
    admits p true s = true ↔
      (s.port p).queue.length < capacity p ∧ ((s.port p).queue.filter (·.relayed)).length < relayShare p := by
  simp only [admits, hasRoom, up, Bool.true_and, Bool.and_eq_true, Bool.not_true, Bool.false_or,
    decide_eq_true_eq]
  exact Iff.rfl

/-- A relay is possible where the frame has a hop left and the other port is UP. -/
theorem relayPossible_iff (p : Port) (f : Frame) (s : State) :
    relayPossible p f s = true ↔ ¬(f.hop = 0 ∨ (s.port (otherPort p)).up = false) := by
  simp [relayPossible]

/-- The relay of an unconfirmed frame. -/
theorem relayUnconfirmed_eq (p : Port) (f : Frame) (target : PointCode) (s : State) :
    relayUnconfirmed p f target s = relayedAcross p f target .relay false s := by
  by_cases h : f.hop = 0 ∨ (s.port (otherPort p)).up = false
  · have : relayPossible p f s = false := by
      simpa using mt (relayPossible_iff p f s).mp (not_not_intro h)
    unfold relayUnconfirmed relayedAcross
    dsimp only
    rw [this, if_pos h, if_neg Bool.false_ne_true]
  · have possible := (relayPossible_iff p f s).mpr h
    have room := admits_relayed_iff (otherPort p) s (by simpa using (not_or.mp h).2)
    unfold relayUnconfirmed relayedAcross offerCopy offer
    simp only [possible, if_true, h, if_false]
    by_cases r : admits (otherPort p) true s = true
    · simp [r, room.mp r, relayedCopy]
    · have := mt room.mpr r
      simp [r, this, countDropped, bump, Config.countTop]

/-- The relay of a confirmed frame, where one is possible. -/
theorem relayConfirmed_eq (p : Port) (f : Frame) (target : PointCode) (owner : Owner) (otherwise s : State) :
    relayConfirmed p f target owner otherwise s =
      if f.hop = 0 ∨ (s.port (otherPort p)).up = false then otherwise else relayedAcross p f target owner true s := by
  by_cases h : f.hop = 0 ∨ (s.port (otherPort p)).up = false
  · have : relayPossible p f s = false := by
      simpa using mt (relayPossible_iff p f s).mp (not_not_intro h)
    unfold relayConfirmed
    rw [this, if_pos h, if_neg Bool.false_ne_true]
  · have possible := (relayPossible_iff p f s).mpr h
    have room := admits_relayed_iff (otherPort p) s (by simpa using (not_or.mp h).2)
    unfold relayConfirmed relayedAcross offerCopy offer
    simp only [possible, if_true, h, if_false]
    by_cases r : admits (otherPort p) true s = true
    · simp [r, room.mp r, relayedCopy]
    · have := mt room.mpr r
      simp [r, this]

/-- A frame at a port that does not receive, or one whose reception was cut off, changes nothing. -/
theorem frameArrives_abandoned {p : Port} {bytes : List Byte} {begun : Nat} {s : State}
    (h : receiving p s = false ∨ begun ≠ (s.port p).cuts) : frameArrives p bytes begun s = s := by
  rcases h with h | h <;> simp [frameArrives, h]

/-- Malformed bytes at a receiving port are counted, and that is all. -/
theorem frameArrives_malformed {p : Port} {bytes : List Byte} {s : State} (h : receiving p s = true)
    (bad : Frame.decode bytes = none) : frameArrives p bytes (s.port p).cuts s = countMalformed p s := by
  simp [frameArrives, h, receive, bad]

/-- A good frame at a receiving port is shown to the match units and classified. -/
theorem frameArrives_good {p : Port} {bytes : List Byte} {f : Frame} {s : State} (h : Receives p bytes f s) :
    frameArrives p bytes (s.port p).cuts s = classify p f (showFrame false p f s) := by
  simp [frameArrives, h.1, receive, h.2]

/-- A lost arbitration is the arrival of the winner with the device's frame WAITING again. -/
theorem arbitrationLoses_eq {p : Port} {winner : List Byte} {begun : Nat} {s : State} {q : Queued}
    (sending : sendingOf (s.port p).queue = some q) (lost : losesTo q.frame.encode winner = true) :
    arbitrationLoses p winner begun s = frameArrives p winner begun (setSending p q.order false s) := by
  simp [arbitrationLoses, sending, lost]

end Sys2Proof.Machine
end

