-- ==== Sys2Proof/Laws/Tables.lean ====
section
/-! SUPPORT. The insertions into the ordered tables (R21, R87, R157): what an insertion holds, and that it keeps the order. -/

namespace Sys2Proof.Machine

/-! ### The point table (R21, R24) -/

/-- R24: an inserted entry, or one held before under another code. -/
theorem mem_insertPoint {e x : PointEntry} {l : List PointEntry} (h : x ∈ insertPoint e l) : x = e ∨ x ∈ l := by
  induction l with
  | nil => simpa [insertPoint] using h
  | cons y ys ih =>
    unfold insertPoint at h
    split at h
    · rcases List.mem_cons.mp h with h | h
      · exact .inl h
      · exact .inr (List.mem_cons_of_mem _ h)
    · split at h
      · simpa using h
      · rcases List.mem_cons.mp h with h | h
        · exact .inr (h ▸ List.mem_cons_self)
        · exact (ih h).imp id (List.mem_cons_of_mem _)

/-- R21, R24: an insertion keeps the ascending order of the codes. -/
theorem insertPoint_ordered (e : PointEntry) {l : List PointEntry}
    (h : l.Pairwise fun a b => a.code.toNat < b.code.toNat) :
    (insertPoint e l).Pairwise fun a b => a.code.toNat < b.code.toNat := by
  induction l with
  | nil => simp [insertPoint]
  | cons y ys ih =>
    obtain ⟨hy, hys⟩ := List.pairwise_cons.mp h
    unfold insertPoint
    split
    · rename_i he
      exact List.pairwise_cons.mpr ⟨he ▸ hy, hys⟩
    · split
      · rename_i hlt
        refine List.pairwise_cons.mpr ⟨fun b hb => ?_, h⟩
        rcases List.mem_cons.mp hb with hb | hb
        · exact hb ▸ hlt
        · exact Nat.lt_trans hlt (hy b hb)
      · rename_i hne hge
        have hlt : y.code.toNat < e.code.toNat := by
          have : y.code.toNat ≠ e.code.toNat := fun hh => hne (BitVec.eq_of_toNat_eq hh)
          omega
        refine List.pairwise_cons.mpr ⟨fun b hb => ?_, ih hys⟩
        rcases mem_insertPoint hb with hb | hb
        · exact hb ▸ hlt
        · exact hy b hb

/-- R24: an entry of a listed code replaces it; one of a new code takes one more place. -/
theorem insertPoint_length_le (e : PointEntry) (l : List PointEntry) : (insertPoint e l).length ≤ l.length + 1 := by
  induction l with
  | nil => simp [insertPoint]
  | cons y ys ih =>
    unfold insertPoint
    split
    · simp
    · split
      · simp
      · simpa using ih

/-- R21: a search by code in one list. -/
theorem find_insertPoint_self (e : PointEntry) (l : List PointEntry) :
    (insertPoint e l).find? (fun x => x.code == e.code) = some e := by
  induction l with
  | nil => simp [insertPoint]
  | cons y ys ih =>
    unfold insertPoint
    split
    · simp
    · split
      · simp
      · rename_i hne _
        simpa [hne] using ih

/-! ### The outbound table (R157) -/

/-- R158: an inserted entry, or one held before. -/
theorem mem_insertOutput {e x : OutEntry} {l : List OutEntry} (h : x ∈ insertOutput e l) : x = e ∨ x ∈ l := by
  induction l with
  | nil => simpa [insertOutput] using h
  | cons y ys ih =>
    unfold insertOutput at h
    split at h
    · rcases List.mem_cons.mp h with h | h
      · exact .inl h
      · exact .inr (List.mem_cons_of_mem _ h)
    · split at h
      · simpa using h
      · rcases List.mem_cons.mp h with h | h
        · exact .inr (h ▸ List.mem_cons_self)
        · exact (ih h).imp id (List.mem_cons_of_mem _)

/-- R157: an insertion keeps the table in index order. -/
theorem insertOutput_ordered (e : OutEntry) {l : List OutEntry}
    (h : l.Pairwise fun a b => a.index.val < b.index.val) :
    (insertOutput e l).Pairwise fun a b => a.index.val < b.index.val := by
  induction l with
  | nil => simp [insertOutput]
  | cons y ys ih =>
    obtain ⟨hy, hys⟩ := List.pairwise_cons.mp h
    unfold insertOutput
    split
    · rename_i he
      exact List.pairwise_cons.mpr ⟨he ▸ hy, hys⟩
    · split
      · rename_i hlt
        refine List.pairwise_cons.mpr ⟨fun b hb => ?_, h⟩
        rcases List.mem_cons.mp hb with hb | hb
        · exact hb ▸ hlt
        · exact Nat.lt_trans hlt (hy b hb)
      · rename_i hne hge
        have hlt : y.index.val < e.index.val := by
          have : y.index.val ≠ e.index.val := fun hh => hne (Fin.ext hh)
          omega
        refine List.pairwise_cons.mpr ⟨fun b hb => ?_, ih hys⟩
        rcases mem_insertOutput hb with hb | hb
        · exact hb ▸ hlt
        · exact hy b hb

/-- A change of entries that keeps their indices keeps the table in index order. -/
theorem updateOutput_ordered (i : OutIndex) (f : OutEntry → OutEntry) (hf : ∀ e, (f e).index = e.index) {s : State}
    (h : OutputsSound s) : OutputsSound (updateOutput i f s) := by
  have hi : ∀ e : OutEntry, (if e.index = i then f e else e).index = e.index := fun e => by split <;> simp [hf]
  simp only [OutputsSound, updateOutput, List.pairwise_map, hi]
  exact h

/-- A change of entries that keeps their codes keeps the point table in code order. -/
theorem updatePoint_ordered (c : PointCode) (f : PointEntry → PointEntry) (hf : ∀ e, (f e).code = e.code) {s : State}
    (h : PointsSound s) : PointsSound (updatePoint c f s) := by
  have hc : ∀ e : PointEntry, (if e.code = c then f e else e).code = e.code := fun e => by split <;> simp [hf]
  simp only [PointsSound, updatePoint, List.pairwise_map, hc, List.length_map]
  exact h

/-! ### The booking pages (R87) -/

/-- R87: an insertion into a page holds the booking and the page, in some order. -/
theorem mem_insertBooking {b x : Booking} {l : List Booking} : x ∈ insertBooking b l ↔ x = b ∨ x ∈ l := by
  induction l with
  | nil => simp [insertBooking]
  | cons y ys ih =>
    unfold insertBooking
    split
    · simp
    · simp only [List.mem_cons, ih]
      constructor
      · rintro (h | h | h) <;> simp [h]
      · rintro (h | h | h) <;> simp [h]

theorem insertBooking_length (b : Booking) (l : List Booking) : (insertBooking b l).length = l.length + 1 := by
  induction l with
  | nil => simp [insertBooking]
  | cons y ys ih =>
    unfold insertBooking
    split
    · simp
    · simpa using ih

/-- R89: the booking behind the first of an id, as the statements say it. -/
theorem followingBooking_eq (id : Nat) (l : List Booking) :
    followingBooking id l = (l.dropWhile fun b => b.id ≠ id).tail.head? := by
  induction l with
  | nil => rfl
  | cons y ys ih =>
    unfold followingBooking
    by_cases h : y.id = id <;> simp [h, ih]

/-- R89: the booking READ_BOOKING names, as the statements say it. -/
theorem bookingNamed_eq (page : List Booking) (id form : Nat) : bookingNamed page id form =
    if form = 0 then (if id = 0 then none else page.find? fun b => b.id = id)
    else if id = 0 then page.head? else (page.dropWhile fun b => b.id ≠ id).tail.head? := by
  simp only [bookingNamed, findBooking, followingBooking_eq, beq_eq_decide]

end Sys2Proof.Machine
end

