-- ==== Sys2Proof/Laws/Room.lean ====
section
/-! SUPPORT. The mismatch set and its notice (R97), booking lists (R94), entries found by code (R21), and what a tick takes and marks (R80, log 3). -/

namespace Sys2Proof.Machine

/-! ### Entries found by code (R21) -/

/-- R21: in a sound table an entry is the one found under its code. -/
theorem findPoint_of_mem {s : State} (h : PointsSound s) {e : PointEntry} (he : e ∈ s.points) :
    findPoint s e.code = some e := by
  obtain ⟨ho, -⟩ := h
  unfold findPoint
  induction hp : s.points generalizing s with
  | nil => simp [hp] at he
  | cons y ys ih =>
    rw [hp] at he ho
    obtain ⟨hy, hys⟩ := List.pairwise_cons.mp ho
    rcases List.mem_cons.mp he with rfl | hm
    · simp
    · have hne : y.code ≠ e.code := fun hc => Nat.lt_irrefl _ (hc ▸ hy e hm)
      simpa [hne] using ih (s := { s with points := ys }) hm hys rfl

/-- What is found under a code after a change of one code's entries that keeps their codes. -/
theorem findPoint_updatePoint (c c' : PointCode) (f : PointEntry → PointEntry) (hf : ∀ e, (f e).code = e.code) (s : State) :
    findPoint (updatePoint c f s) c' = (findPoint s c').map fun e => if e.code = c then f e else e := by
  have hc : ∀ e : PointEntry, (if e.code = c then f e else e).code = e.code := fun e => by split <;> simp [hf]
  simp only [findPoint, updatePoint, List.find?_map, Function.comp_def, hc]

/-! ### Several raises of one kind (R180, log 8) -/

@[simp] theorem raiseOneOf_nil (k : NoticeKind) (s : State) : raiseOneOf k [] s = s := rfl

/-- Of several raises one is the last: it is a raise of one of the details, apart from the free values taken. -/
theorem raiseOneOf_eq {k : NoticeKind} {ds : List (BitVec 24)} (h : ds ≠ []) (s : State) :
    ∃ d ∈ ds, ∃ n, raiseOneOf k ds s = raise k d { s with free := n } := by
  match ds, h with
  | [d], _ => exact ⟨d, by simp, s.free, rfl⟩
  | d :: e :: ds, _ =>
    have hl : Config.lastRaised s.free % (d :: e :: ds).length < (d :: e :: ds).length :=
      Nat.mod_lt _ (by simp)
    refine ⟨_, ?_, s.free + 1, rfl⟩
    rw [List.getD_eq_getElem _ _ hl]
    exact List.getElem_mem hl

/-! ### The mismatch set (R97) -/

theorem mem_allZones (z : Zone) : z ∈ allZones := by revert z; decide

theorem mem_presentZones {s : State} {z : Zone} : z ∈ presentZones s ↔ present s z = true := by
  rw [presentZones, List.mem_filter]
  exact and_iff_right (mem_allZones z)

theorem mem_zonesOf {set : PerZone Bool} {z : Zone} : z ∈ zonesOf set ↔ set[z] = true := by
  rw [zonesOf, List.mem_filter]
  exact and_iff_right (mem_allZones z)

theorem mem_viewedIds {s : State} {id : Nat} : id ∈ viewedIds s ↔
    ∃ z : Zone, present s z = true ∧ (s.views[z].active = some id ∨ s.views[z].upcoming.map (·.id) = some id) := by
  simp [viewedIds, mem_presentZones, List.mem_eraseDups]

/-- R97: whether the present zones of a set fall in one group, as the statements say it. -/
theorem inOneGroup_eq_false {s : State} {set : PerZone Bool} : inOneGroup s set = false ↔ SpansGroups s set := by
  have hm : ∀ z : Zone, z ∈ (zonesOf set).filter (present s) ↔ set[z] = true ∧ present s z = true := fun z => by
    rw [List.mem_filter, mem_zonesOf]
  unfold inOneGroup SpansGroups
  constructor
  · intro h
    split at h
    · simp at h
    · rename_i z zs heq
      rw [heq] at hm
      simp only [List.all_eq_false, beq_iff_eq] at h
      obtain ⟨y, hy, hne⟩ := h
      have h1 := (hm y).mp (List.mem_cons_of_mem _ hy)
      have h2 := (hm z).mp List.mem_cons_self
      exact ⟨y, z, h1.1, h2.1, h1.2, h2.2, hne⟩
  · rintro ⟨y, z, hy, hz, py, pz, hne⟩
    have my := (hm y).mpr ⟨hy, py⟩
    have mz := (hm z).mpr ⟨hz, pz⟩
    split
    · rename_i heq; simp [heq] at my
    · rename_i x xs heq
      rw [heq] at my mz
      by_contra hc
      have hall : ∀ w ∈ x :: xs, (groupOf s w).map (·.1) = (groupOf s x).map (·.1) := by
        simp only [Bool.not_eq_false, List.all_eq_true, beq_iff_eq] at hc
        intro w hw
        rcases List.mem_cons.mp hw with rfl | hw
        · rfl
        · exact hc w hw
      exact hne ((hall y my).trans (hall z mz).symm)

theorem mem_mismatchSet {s : State} {id : Nat} : id ∈ mismatchSet s ↔
    (∃ z : Zone, present s z = true ∧ (s.views[z].active = some id ∨ s.views[z].upcoming.map (·.id) = some id)) ∧
      ∃ b, findBooking s.activeBookings id = some b ∧ SpansGroups s b.zones := by
  simp only [mismatchSet, List.mem_filter, mem_viewedIds]
  refine and_congr_right fun _ => ?_
  cases h : findBooking s.activeBookings id <;> simp [inOneGroup_eq_false]

theorem nodup_eraseDups (l : List Nat) : l.eraseDups.Nodup := by
  induction hn : l.length using Nat.strong_induction_on generalizing l with
  | _ n ih =>
    match l with
    | [] => simp
    | x :: xs =>
      rw [List.eraseDups_cons, List.nodup_cons]
      refine ⟨by simp [List.mem_eraseDups], ih _ ?_ _ rfl⟩
      have := List.length_filter_le (fun b => !b == x) xs
      simp only [List.length_cons] at hn
      omega

theorem mismatchSet_nodup (s : State) : (mismatchSet s).Nodup := (nodup_eraseDups _).filter _

theorem State.activeBookings_eq (s : State) : s.activeBookings = if s.activePage = .a then s.pageA else s.pageB := by
  cases h : s.activePage <;> simp [State.activeBookings, State.page, h]

/-- R97: what a recomputation leaves: the state with the new set, its notice, and a free value taken where several ids enter. -/
theorem recomputeMismatch_eq (s : State) :
    (recomputeMismatch s = { s with mismatch := mismatchSet s } ∧ ∀ id ∈ mismatchSet s, id ∈ s.mismatch) ∨
    ∃ id ∈ mismatchSet s, id ∉ s.mismatch ∧ ∃ n,
      recomputeMismatch s = raise .partitionMismatch (detail16 id) { s with mismatch := mismatchSet s, free := n } := by
  unfold recomputeMismatch
  dsimp only
  by_cases h : ((mismatchSet s).filter fun id => !s.mismatch.contains id).map detail16 = []
  · left
    rw [h]
    refine ⟨rfl, fun id hid => ?_⟩
    simp only [List.map_eq_nil_iff, List.filter_eq_nil_iff] at h
    simpa using h id hid
  · right
    obtain ⟨d, hd, n, heq⟩ := raiseOneOf_eq h { s with mismatch := mismatchSet s }
    obtain ⟨id, hid, rfl⟩ := List.mem_map.mp hd
    obtain ⟨hm, hn⟩ := List.mem_filter.mp hid
    exact ⟨id, hm, by simpa using hn, n, by rw [heq]⟩

/-- R97: a state that has the new set, and all that decides it as before the recomputation. -/
theorem mismatchAfter_of_eq {s t : State} {old : List Nat} {before : Notice} (hm : t.mismatch = mismatchSet s)
    (hz : t.zones = s.zones) (hg : t.groups = s.groups) (hv : t.views = s.views) (hp : t.activePage = s.activePage)
    (ha : t.pageA = s.pageA) (hb : t.pageB = s.pageB)
    (hr : (∃ id ∈ mismatchSet s, id ∉ old) → (t.notice .partitionMismatch).flag = true ∧
      ∃ id ∈ mismatchSet s, id ∉ old ∧ (t.notice .partitionMismatch).detail = some (detail16 id))
    (hk : (∀ id ∈ mismatchSet s, id ∈ old) →
      (t.notice .partitionMismatch).flag = before.flag ∧ (t.notice .partitionMismatch).detail = before.detail) :
    MismatchAfter old before t where
  holds id := by
    rw [hm, mem_mismatchSet, State.activeBookings_eq]
    simp only [SpansGroups, groupOf, present, hz, hg, hv, hp, ha, hb]
  once := hm ▸ mismatchSet_nodup s
  raised := by rw [hm]; exact hr
  kept := by rw [hm]; exact hk

/-- R97: a recomputation does what the statements say of it. -/
theorem recomputeMismatch_after (s : State) :
    MismatchAfter s.mismatch (s.notice .partitionMismatch) (recomputeMismatch s) := by
  rcases recomputeMismatch_eq s with ⟨heq, hall⟩ | ⟨id, hid, hnew, n, heq⟩ <;> rw [heq]
  · exact mismatchAfter_of_eq rfl rfl rfl rfl rfl rfl rfl (fun ⟨x, hx, hn⟩ => absurd (hall x hx) hn)
      fun _ => ⟨rfl, rfl⟩
  · have hu : ∀ (d : BitVec 24) (u : State), (raise .partitionMismatch d u) =
        { u with notices := (raise .partitionMismatch d u).notices } := fun d u => by
      unfold raise; split <;> rfl
    refine mismatchAfter_of_eq (s := s) ?_ ?_ ?_ ?_ ?_ ?_ ?_ (fun _ => ?_) fun h => absurd (h id hid) hnew
    all_goals first
      | (rw [hu]; done)
      | (rw [raise_self]; exact ⟨rfl, id, hid, hnew, rfl⟩)

/-! ### The booking fields (R94) -/

theorem forZones_get {α : Type} (f : Zone → α) (z : Zone) : (forZones f)[z] = f z := by
  match z with
  | 0 => rfl
  | 1 => rfl
  | 2 => rfl
  | 3 => rfl

/-- R94: the booking list holds the active booking of each member's view. -/
theorem bookingFields_list {s : State} {members : List Zone} {z : Zone} (h : z ∈ members) :
    (bookingFields s members).list[z] = s.views[z].active := by
  simp only [bookingFields, forZones_get, List.contains_iff_mem.mpr h, if_true]

/-! ### What a second marks, and what is left of it (R80, log 3) -/

/-- Commands that each leave a state as it is leave it so one after the other. -/
theorem afterAll_of_unchanged {cs : List Instr} {s : State} (h : ∀ c ∈ cs, afterAll [c] s = s) : afterAll cs s = s := by
  induction cs with
  | nil => rfl
  | cons c cs ih =>
    have hc := h c List.mem_cons_self
    have hcs := ih fun x hx => h x (List.mem_cons_of_mem _ hx)
    unfold afterAll at hc ⊢
    split at hc
    · simp only [afterAll] at hc
      rw [hc]; exact hcs
    · rfl

theorem afterAll_append (cs ds : List Instr) (s : State) (h : ∀ c u, ∃ t, exec c u = .next t) :
    afterAll (cs ++ ds) s = afterAll ds (afterAll cs s) := by
  induction cs generalizing s with
  | nil => rfl
  | cons c cs ih =>
    obtain ⟨t, ht⟩ := h c s
    simp only [List.cons_append, afterAll, ht]
    exact ih t

@[simp] theorem markDue_minute (s : State) : (markDue s).due.minute = minuteDue s := rfl
@[simp] theorem markDue_elapsed (s : State) : (markDue s).elapsed = s.elapsed := rfl
@[simp] theorem markDue_clock (s : State) : (markDue s).clock = s.clock := rfl
@[simp] theorem markDue_groups (s : State) : (markDue s).groups = s.groups := rfl
@[simp] theorem markDue_zones (s : State) : (markDue s).zones = s.zones := rfl

end Sys2Proof.Machine
end

