-- ==== Sys2Proof/Tests/Slice0.lean ====
section
/-! SUPPORT. Tests: the checks of a command refuse ill-formed terms; single steps whose results the manual gives (its worked
sequences and tables); and for every statement with hypotheses a state and operands that meet them all. -/

namespace Sys2Proof.Tests

open Sys2Proof Sys2Proof.Machine

-- The tests are checked one after the other: each of many at once would hold a thread of its own.
set_option Elab.async false

/-! ### Small states -/

/-- The host: trunk line 2, node 5, priority 2. -/
def host : Requester := ⟨.trunk, 2, 5, 2, false, 6, 0⟩
/-- A tool on the room line. -/
def tool : Requester := ⟨.room, 9, 17, 2, true, 6, 0⟩
/-- Both ports UP, no notice, in HOLD, after reset. -/
def base : State :=
  { State.reset with
    room := { LinePort.reset with up := true }
    trunk := { LinePort.reset with up := true }
    notices := Vector.replicate 12 ⟨false, none, false⟩ }
/-- The same in RUN. -/
def inRun : State := { base with hold := false }
/-- A zone of 120 m² with a facade. -/
def hall : ZoneConfig := ⟨120, 10, 3000, 600, 150, false, true⟩
/-- A group of Z0 alone in a state. -/
def groupIn (st : Occupancy) : Group where
  members := [0]
  state := st
  effOverride := .auto
  overrideExpiry := none
  booking := ⟨Vector.replicate 4 none, none, 0, none, 0⟩
  attended := false
  pendingSince := none
  lastPresence := none
  holdoverDeadline := none
  noShowDeadline := none
  headCount := 0
  manualScene := none
  presentation := false
  reportPending := false
/-- Z0 alone in the room, its group in a state, at second 3600. -/
def roomIn (st : Occupancy) : State :=
  { base with
    zones := #v[some hall, none, none, none]
    groups := #v[some (groupIn st), none, none, none]
    elapsed := 3600 }
/-- A point table entry of side ROOM with a code, a disposition, a role and an attachment. -/
def pointIn (c : PointCode) (d : Disposition) (r : Option Role) (a : Attachment) : PointEntry where
  code := c
  side := .room
  disposition := d
  relayCode := none
  role := r
  attachment := a
  rangeMap := none
  silenceLimit := if r = none then 0 else 60
  supervision := .awaiting
  deadline := none
  last := none
  lanes := Vector.replicate 4 none
  lastArrival := none
  outOfSpan := false
  lastCommand := none
/-- Points 10 BLOCK, 11 PASS, 12 TAKE (MOTION of Z0). -/
def listed : State :=
  { base with points := [pointIn 10 .block none .none, pointIn 11 .pass none .none,
      pointIn 12 .take (some .motion) (.zones #v[true, false, false, false])] }
/-- A frame of a room node. -/
def roomFrame (k : Kind) (c : PointCode) (v : List Byte) : Frame := ⟨2, k, 6, 9, 23, c, true, 0, v⟩
/-- An AIRFLOW entry of Z0 at index 3. -/
def damper (st : OutState) : OutEntry where
  index := 3
  code := 40
  zone := 0
  function := .airflow
  deadband := 5
  refresh := 300
  state := st
  toggle := false
  exposed := false
  computed := some ⟨500, 0⟩
  sent := some ⟨500, 0⟩
  confirmed := none
  next := none
  retries := 0
  busies := 0
  timer := none
/-- The base state with that entry. -/
def withDamper (st : OutState) : State := { base with outputs := [damper st] }
/-- A frame of the device in the room queue. -/
def queued (o : Owner) (relayed sending : Bool) (order : Nat) : Queued :=
  ⟨⟨1, .command, 6, 0, 1, 40, false, 0, [1, 244]⟩, o, relayed, order, sending⟩
/-- The room queue holding frames. -/
def roomQueue (q : List Queued) (s : State) : State :=
  { s with room := { s.room with queue := q, nextOrder := 10 } }
/-- The next state of a command (the state itself where the command does not complete). -/
def after (c : Instr) (s : State) : State :=
  match exec c s with
  | .next t => t
  | _ => s

/-! ### The checks of a command -/

theorem test_refuses_origin_node_0 : (Instr.describe ⟨.trunk, 2, 0, 2, false, 6, 0⟩ []).wellFormed = false := by decide +kernel
theorem test_refuses_origin_node_255 : (Instr.hold ⟨.trunk, 2, 255, 2, false, 6, 0⟩ []).wellFormed = false := by decide +kernel
theorem test_refuses_40_argument_bytes : (Instr.loadScene host (List.replicate 40 0)).wellFormed = false := by
  decide +kernel
theorem test_refuses_listed_code_as_unknown : (Instr.unknownRequest host [28]).wellFormed = false := by decide +kernel
theorem test_refuses_41_value_bytes : (Instr.unknownRequest host (List.replicate 41 0)).wellFormed = false := by
  decide +kernel
theorem test_accepts_the_edges : (Instr.loadScene host (List.replicate 39 0)).wellFormed = true ∧
    (Instr.unknownRequest host []).wellFormed = true ∧ (Instr.unknownRequest host [29]).wellFormed = true ∧
    (Instr.unknownRequest host [0]).wellFormed = true := by decide +kernel

/-! ### Operand forms and formulas, with the manual's values -/

/-- R5 is the code with polynomial 1021H and start FFFFH, whose published check over the digits 1 to 9 is 29B1H. -/
theorem test_check_of_the_nine_digits : crc [49, 50, 51, 52, 53, 54, 55, 56, 57] = 0x29B1#16 := by decide +kernel
/-- R4: byte 0 of priority 2, kind 2, hop 6 is 10 010 110; the toggle is bit 7 of byte 4. -/
theorem test_header_bits : (roomFrame .command 0x123 [7]).header 1 = [0x96, 0x91, 23, 0x23, 0x80, 1] := by decide +kernel
/-- 00_scope.md: −7/2 away from zero is −4, −5/3 is −2; truncated −7/2 is −3; 7/2 half up is 4, 5/3 is 2. -/
theorem test_rounding : roundHalfAway (-7) 2 = -4 ∧ roundHalfAway (-5) 3 = -2 ∧ truncate (-7) 2 = -3 ∧
    roundHalfUp 7 2 = 4 ∧ roundHalfUp 5 3 = 2 := by decide +kernel
/-- R127: 1051 ppm against 1000 gives 51, 1050 gives 0, and the error is clamped to 2000. -/
theorem test_effective_error : effectiveError Params.reset (some 1051) = 51 ∧ effectiveError Params.reset (some 1050) = 0 ∧
    effectiveError Params.reset (some 5000) = 2000 ∧ effectiveError Params.reset none = 0 := by decide +kernel
/-- R78 by hand: 31 over 120, 80, 100: floors 12, 8, 10, remainders 120, 80, 100 of 300, one person left. -/
theorem test_apportion : apportion 31 [120, 80, 100] = [13, 8, 10] ∧ apportion 1 [100, 100] = [1, 0] := by decide +kernel
/-- R81: Sunday 23:59:59 is followed by Monday 00:00:00. -/
theorem test_week_end : WingTime.advance ⟨6, 1439, 59⟩ = ⟨0, 0, 0⟩ := by decide +kernel
/-- R84: Monday 00:00:02 against Sunday 23:59:58 is 4 s ahead, the short way round the week. -/
theorem test_clock_difference_wraps : clockDifference ⟨0, 0, 2⟩ ⟨6, 1439, 58⟩ = 4 ∧
    clockDifference ⟨6, 1439, 58⟩ ⟨0, 0, 2⟩ = -4 := by decide +kernel
/-- R94: bookings that abut, 600 to 660 and 660 to 720, do not intersect; 600 to 661 does. -/
theorem test_abutting_bookings : intersects (bookingOf [0, 1, 1, 2, 88, 2, 148, 1, 0, 9, 0, 0, 0])
      (bookingOf [0, 2, 1, 2, 148, 2, 208, 1, 0, 9, 0, 0, 0]) = false ∧
    intersects (bookingOf [0, 1, 1, 2, 88, 2, 149, 1, 0, 9, 0, 0, 0])
      (bookingOf [0, 2, 1, 2, 148, 2, 208, 1, 0, 9, 0, 0, 0]) = true := by decide +kernel

/-! ### Single steps -/

/-- R3, R180: the first frame on the trunk after a power-on is STARTED: kind code 0, detail 0, on point 4004, hop 6. -/
theorem test_first_frame_is_started :
    ((after (.linePowerUp .trunk) State.reset).trunk.queue.map fun q => (q.frame.target, q.frame.value)) =
      [(4004, [0, 0, 0, 0])] := by decide +kernel
/-- R7: node 255 holds the ports DOWN. -/
theorem test_bad_strap_holds_ports_down :
    (after (.linePowerUp .room) (after (.powerOnReset 2 9 255) base)).room.up = false := by decide +kernel
/-- R32, R36: a PASS COMMAND with hop 6 leaves with hop 5 and is answered ACK; R35: a BLOCK COMMAND is answered NAK. -/
theorem test_pass_and_block_answers :
    ((after (.frameArrival .room (roomFrame .command 11 [1]).encode 0) listed).trunk.queue.map (·.frame.hop)) = [5] ∧
    (after (.frameArrival .room (roomFrame .command 11 [1]).encode 0) listed).pins.roomSlot = some .ack ∧
    (after (.frameArrival .room (roomFrame .command 10 [1]).encode 0) listed).pins.roomSlot = some .nak := by decide +kernel
/-- R6: one wrong check byte is one malformed frame. -/
theorem test_wrong_check_counts :
    (after (.frameArrival .room ((roomFrame .state 12 [1]).body ++ [0, 0]) 0) listed).room.checkErrors = 1 := by
  decide +kernel
/-- R165: NONE enters BACKOFF for 2 s with the toggle exposed. -/
theorem test_none_enters_backoff :
    ((after (.transmissionOutcome .room none) (roomQueue [queued (.output 3) false true 1] (withDamper .queued))).outputs.map
      fun e => (e.state, e.exposed, e.timer, e.toggle)) = [(.backoff, true, some 2, false)] := by decide +kernel
/-- R164: ACK flips the toggle and confirms, with the refresh 300 s ahead. -/
theorem test_ack_confirms :
    ((after (.transmissionOutcome .room (some (6, 249)))
      (roomQueue [queued (.output 3) false true 1] (withDamper .queued))).outputs.map
      fun e => (e.state, e.toggle, e.confirmed, e.timer)) = [(.confirmed, true, some ⟨500, 0⟩, some 300)] := by
  decide +kernel
/-- R168, R166, log 33: an entry set by a drive before any computed value is refreshed; its frame carries a free value. -/
theorem test_refresh_without_a_value :
    (let s : State := { base with outputs := [{ damper .confirmed with computed := none, timer := some 0 }] }
     (after (.refresh 3) s).outputs.map (·.state) = [.queued] ∧ (after (.refresh 3) s).room.queue.length = 1 ∧
       (after (.refresh 3) s).free = 1) := by decide +kernel
/-- R11: of two WAITING frames the one of priority 1 starts before the one of priority 2 admitted earlier. -/
theorem test_head_is_highest_priority :
    ((after (.frameStart .room) (roomQueue [{ queued .relay true false 1 with frame := roomFrame .state 11 [] },
      queued .drive false false 2] base)).room.queue.map (·.sending)) = [false, true] := by decide +kernel
/-- R174: READ_STATUS carries 31 bytes after the two codes; READ_NOTICES 38; DESCRIBE 14. -/
theorem test_reply_lengths :
    ((after (.readStatus host []) base).trunk.queue.map (·.frame.value.length)) = [33] ∧
    ((after (.readNotices host []) base).trunk.queue.map (·.frame.value.length)) = [40] ∧
    ((after (.describe host []) base).trunk.queue.map (·.frame.value.length)) = [16] := by decide +kernel
/-- R172: LOAD_POINT outside HOLD is answered NEEDS_HOLD (7), an unlisted code MALFORMED (1) under its code. -/
theorem test_needs_hold_and_unknown :
    ((after (.loadPoint host (List.replicate 23 0)) inRun).trunk.queue.map (·.frame.value)) = [[3, 7]] ∧
    ((after (.unknownRequest host [99, 1]) base).trunk.queue.map (·.frame.value)) = [[99, 1]] := by decide +kernel
/-- R169: a room-port request in RUN is answered NAK, but HOLD is performed. -/
theorem test_room_port_in_run :
    (after (.readStatus tool []) inRun).pins.roomSlot = some .nak ∧ (after (.hold tool []) inRun).hold = true := by
  decide +kernel
/-- R176: SET_PARAMETER 7 to 59 s is below its range of 60–3600: OUT_OF_RANGE (2); 60 is taken and echoed. -/
theorem test_set_parameter_edge :
    ((after (.setParameter host [7, 0, 59]) base).trunk.queue.map (·.frame.value)) = [[17, 2]] ∧
    ((after (.setParameter host [7, 0, 60]) base).trunk.queue.map (·.frame.value)) = [[17, 0, 7, 0, 60]] := by decide +kernel
/-- R107: SET_OVERRIDE FORCE_OCCUPIED for 2 minutes expires 120 s ahead and makes the group OCCUPIED. -/
theorem test_set_override :
    (after (.setOverride host [0, 1, 0, 2]) (roomIn .vacant)).overrides[0] = ⟨.forceOccupied, some 3720⟩ ∧
    ((after (.setOverride host [0, 1, 0, 2]) (roomIn .vacant)).groups[0].map (·.state)) = some .occupied := by
  decide +kernel
/-- R103, R100: 600 s after last presence an OCCUPIED, unbooked group enters HOLDOVER for 600 s. -/
theorem test_quiet_time :
    ((after (.quietTimeExpiry 0)
      { roomIn .occupied with
        groups := #v[some { groupIn .occupied with lastPresence := some 3000 }, none, none, none]
        due := { Due.reset with groupTick := #v[true, false, false, false] } }).groups[0].map
      fun g => (g.state, g.holdoverDeadline)) = some (.holdover, some 4200) := by decide +kernel
/-- R101: a WALL_KEY arrival confirms a VACANT group, R48: and its entry is LIVE. -/
theorem test_wall_key_confirms :
    ((after (.frameArrival .room (roomFrame .state 13 [255]).encode 0)
      { roomIn .vacant with points := [pointIn 13 .take (some .wallKey) (.zones #v[true, false, false, false])] }).groups[0].map
      (·.state)) = some .occupied := by decide +kernel
/-- R132: a target of 2000 from 0 moves D_out by R_step = 200 at a periodic evaluation. -/
theorem test_rate_limit : rateLimited 2000 0 200 = 200 ∧ rateLimited 150 200 200 = 150 := by decide +kernel
/-- R133: 1221 of 3000 dl/s is 407 per-mille; 30 of 80 rounds 375. -/
theorem test_airflow_command : airflowCommand 1221 3000 = 407 ∧ airflowCommand 30 80 = 375 := by decide +kernel

/-! ### Every statement with hypotheses has a state that meets them -/

theorem witness_step : ({ base with pending := [.noticeOffer, .elapsedSecondTick] } : State).pending =
    .noticeOffer :: [.elapsedSecondTick] ∧ base.pending = [] := by decide +kernel

/-- The invariants hold in a state with a room, points, an entry and queued frames, not only after reset. -/
def working : State :=
  { roomQueue [queued (.output 3) false false 1, queued .relay true true 2] (roomIn .occupied) with
    points := listed.points, outputs := [damper .queued], clock := some ⟨6, 1439, 59⟩, pending := [.elapsedSecondTick] }

theorem witness_invariants : QueuesSound working ∧ CountsSound working ∧ TablesSound working ∧ RoomSound working ∧ BookingListsSound working ∧
    AirSound working ∧ (∀ z : Zone, ConfigSound working z) ∧ OutputsSound working ∧ Settled working := by and_intros <;> decide +kernel

theorem witness_invariants_step : ∃ t, step working = .next t := ⟨_, rfl⟩

/-- Z0's VACANT group with all that follows it: scene OFF, STANDBY, the unoccupied target and the damper's value. -/
def followed : State :=
  { roomIn .vacant with
    air := (Vector.replicate 4 (AirRecord.reset 200)).set 0
      { AirRecord.reset 200 with thermal := some .standby, dTarget := some 150, dOut := 150, command := some 50 }
    light := (Vector.replicate 4 LightRecord.reset).set 0 { LightRecord.reset with scene := some .off }
    outputs := [{ damper .confirmed with computed := some ⟨50, 0⟩, sent := some ⟨50, 0⟩ }]
    pending := [.setOverride host [0, 1, 0, 2]] }

theorem witness_units_follow : RoomSound followed ∧ UnitsFollow followed ∧ ∃ t, step followed = .next t := by
  refine ⟨by decide +kernel, ⟨by decide +kernel, by decide +kernel, ?_, by decide +kernel, by decide +kernel⟩, _, rfl⟩
  have h : ∀ l : Zone, ∀ g ∈ followed.groups[l], g.state = .vacant ∧
      ∀ z ∈ g.members, followed.air[z].thermal = some .standby := by decide +kernel
  intro l g hg z hz
  exact ⟨.standby, (h l g hg).2 z hz, Or.inr ((h l g hg).1 ▸ Or.inl rfl)⟩

/-- A forced group becomes OCCUPIED, and a WINDOW arrival of 1 opens Z0's window: what a group change hands on is asked there. -/
theorem witness_group_change :
    ((after (.setOverride host [0, 1, 0, 2]) followed).groups[0].map fun g => (g.state, g.members)) =
      some (.occupied, [0]) ∧
    followed.groups[0] = some (groupIn .vacant) ∧
    (after (.setOverride host [0, 1, 0, 2]) followed).air[0].thermal = some .comfort ∧
    ((after (.setOverride host [0, 1, 0, 2]) followed).trunk.queue.map (·.owner)) = [.reply, .report 0] ∧
    (let s : State := { followed with points := [pointIn 20 .take (some .window) (.zones #v[true, false, false, false])] }
     RoomSound s ∧ windowOpen s 0 = false ∧
       windowOpen (after (.frameArrival .room (roomFrame .state 20 [1]).encode 0) s) 0 = true) := by
  and_intros <;> decide +kernel

theorem witness_mode_change : (after (.hold host []) inRun).hold ≠ inRun.hold ∧
    (after (.resume host []) base).hold ≠ base.hold ∧ (Instr.hold host []).requests inRun = some 24 ∧
    (Instr.resume host []).requests base = some 25 ∧ (after (.powerOnReset 2 9 5) inRun).hold ≠ inRun.hold := by decide +kernel

theorem witness_newly_queued : OutputsSound (withDamper .pending) ∧
    ((after .outboundAdmission (withDamper .pending)).outputs.map (·.state)) = [.queued] ∧
    (∀ x ∈ (withDamper .pending).outputs, x.index = 3 → x.state ≠ .queued) := by decide +kernel

theorem witness_address : (∀ a b n, Instr.linePowerUp .room ≠ .powerOnReset a b n) ∧
    (after (.powerOnReset 2 9 255) base).address.node = 255 ∧ (after (.powerOnReset 2 9 0) base).address.node = 0 ∧
    PortsHeldDown (after (.powerOnReset 2 9 255) base) ∧ PortsHeldDown (after (.powerOnReset 2 9 0) base) := by
  refine ⟨?_, by decide +kernel⟩
  intro a b n h
  cases h

/-- Commands that bring no loading request, and one that does as a frame: LOAD_POINT's code 3 to the device 0/1. -/
theorem witness_loading : (Instr.softReset host []).requests base = some 28 ∧ 28 ∉ loadingCodes ∧
    (Instr.swapPages host []).requests base = some 13 ∧ 13 ∉ loadingCodes ∧ Instr.elapsedSecondTick.requests base = none ∧
    (Instr.frameArrival .room (roomFrame .state 12 [1]).encode 0).requests listed = none ∧
    (Instr.frameArrival .trunk (⟨2, .manage, 6, 2, 5, 1, false, 0, [3]⟩ : Frame).encode 0).requests base = some 3 ∧
    3 ∈ loadingCodes := by and_intros <;> decide +kernel

theorem witness_good_frame : (roomFrame .command 11 [1]).good = true ∧
    Frame.decode (roomFrame .command 11 [1]).encode = some (roomFrame .command 11 [1]) ∧
    Frame.decode ((⟨3, .manage, 0, 15, 254, 0xFFE, false, 127, List.replicate 40 255⟩ : Frame).encode) =
      some ⟨3, .manage, 0, 15, 254, 0xFFE, false, 127, List.replicate 40 255⟩ := by decide +kernel

theorem witness_power_on_forgets : (roomIn .occupied).pending = base.pending ∧ (roomIn .occupied).free = base.free ∧
    (roomIn .occupied).room.cuts = base.room.cuts ∧ (roomIn .occupied).trunk.cuts = base.trunk.cuts := by decide +kernel

theorem witness_power_up : (State.reset.port .trunk).up = false ∧ State.reset.address.node ≠ 0 ∧
    State.reset.address.node ≠ 255 ∧ State.reset.trunk.queue = [] ∧ State.reset.deferred = none ∧
    (State.reset.notice .started).pending = true ∧ (base.port .room).up = true ∧ Settled base := by decide +kernel

/-- A notice frame and a report in the trunk queue, a COMMAND relayed to the room, an entry's frame and a drive's. -/
def busyLines : State :=
  { roomQueue [queued (.output 3) false true 1, queued (.delivery 305 2) true false 2, queued .drive false false 3]
      (roomIn .vacant) with
    outputs := [damper .queued]
    drive := some ⟨(queued .drive false false 3).frame, true⟩
    notices := (Vector.replicate 12 ⟨false, none, false⟩).set 9 ⟨true, some 0, false⟩
    trunk := { LinePort.reset with
      up := true
      queue := [queued (.notice .airLimited) false false 1, queued (.report 0) false false 2] } }

/-- The same with the drive's reply deferred to the host on the trunk, and to a tool on the room line. -/
def busyDrive (p : Port) : State := { busyLines with deferred := some ⟨p, 2, 5, 2, none⟩ }

theorem witness_power_loss_drive : (busyDrive .trunk).drive = some ⟨(queued .drive false false 3).frame, true⟩ ∧
    ((busyDrive .trunk).port .room).up = true ∧ (busyDrive .trunk).deferred = some ⟨.trunk, 2, 5, 2, none⟩ ∧
    (busyDrive .trunk).trunk.up = true ∧ (busyDrive .trunk).trunk.queue.length < 16 ∧
    (busyDrive .room).deferred = some ⟨.room, 2, 5, 2, none⟩ := by decide +kernel

theorem witness_power_loss : (busyLines.port .room).up = true ∧ (busyLines.port .trunk).up = true ∧
    findOutput busyLines 3 = some (damper .queued) ∧ (busyLines.notice .airLimited).flag = true ∧
    ((after (.linePowerLoss .trunk) busyLines).groups[0]).isSome = true ∧ (State.reset.port .room).up = false ∧
    Settled State.reset := by decide +kernel

theorem witness_signals : base.trunk.up = true ∧ State.reset.trunk.up = false ∧ Settled base ∧
    (base.trunk.cuts + 1 : Nat) ≠ base.trunk.cuts ∧ ({ base with trunkSignal := true } : State).trunkSignal = true := by decide +kernel

theorem witness_soft_reset : busyLines.trunk.up = true ∧ ({ State.reset with trunkSignal := true } : State).trunkSignal = true ∧
    State.reset.trunk.up = false ∧ State.reset.trunkSignal = false ∧ receiving host.port busyLines = true ∧
    carriable host [28] = true ∧ carriable host [28, 1] = true ∧ carriable tool [28] = true ∧ receiving tool.port busyLines = true ∧ (arrivedBy tool [28] busyLines).hold = true ∧
    busyLines.lastRequester ≠ some ⟨host.line, host.node, host.toggle⟩ := by decide +kernel

/-- A SENDING frame of priority 1 that loses to seven zero bytes, which are malformed. -/
theorem witness_malformed :
    receiving .room (roomQueue [queued .relay true true 1] base) = true ∧
    Frame.decode (List.replicate 7 0) = none ∧
    sendingOf (roomQueue [queued .relay true true 1] base).room.queue = some (queued .relay true true 1) ∧
    losesTo (queued .relay true true 1).frame.encode (List.replicate 7 0) = true ∧
    (1 : Nat) ≠ (roomQueue [queued .relay true true 1] base).room.cuts ∧ Frame.decode [] = none ∧ (Instr.loadScene tool (List.replicate 40 0)).requestOf = some (tool, 15 :: List.replicate 40 0) ∧
    40 < (15 :: List.replicate 40 (0 : Byte)).length := by decide +kernel

/-- R119, R141: a soft reset evaluates a present zone afresh and sends its blinds to 0. -/
theorem test_soft_reset_rebuilds :
    (let t := after (.softReset host []) busyLines
     busyLines.zones[0] = some hall ∧ t.groups[0].map (·.state) = some .vacant ∧ t.air[0].thermal = some .standby ∧
       t.light[0].blindSent = some ⟨0, 0⟩ ∧ t.light[0].motionEnd = some 3660) := by decide +kernel

/-- R17: a winner whose reception a room line reset signal cut off is abandoned without counting; the device's frame waits. -/
theorem test_cut_off_winner_is_abandoned :
    (let s := after .roomLineResetSignal (roomQueue [queued .relay true true 1] base)
     let cut := after (.arbitrationLost .room ⟨List.replicate 7 0, 0⟩) s
     cut.room.queue.map (·.sending) = [false] ∧ cut.room.checkErrors = 0 ∧
       (after (.arbitrationLost .room ⟨List.replicate 7 0, 1⟩) s).room.checkErrors = 1) := by decide +kernel

theorem witness_block : Receives .room (roomFrame .command 10 [1]).encode (roomFrame .command 10 [1]) listed ∧
    Listed .room (roomFrame .command 10 [1]) (pointIn 10 .block none .none) listed ∧
    Receives .room (roomFrame .query 10 []).encode (roomFrame .query 10 []) listed ∧
    Listed .room (roomFrame .query 10 []) (pointIn 10 .block none .none) listed := by decide +kernel

/-- Relay room, no relay room (12 relayed frames on the trunk), and no relay (trunk DOWN) for a PASS entry. -/
def fullShare : State :=
  { listed with trunk := { LinePort.reset with
      up := true
      queue := (List.range 12).map fun k => queued .relay true false k
      nextOrder := 12 } }

theorem witness_pass :
    (Receives .room (roomFrame .command 11 [1]).encode (roomFrame .command 11 [1]) listed ∧
      Listed .room (roomFrame .command 11 [1]) (pointIn 11 .pass none .none) listed) ∧
    (Receives .room (roomFrame .state 11 [1]).encode (roomFrame .state 11 [1]) fullShare ∧
      Listed .room (roomFrame .state 11 [1]) (pointIn 11 .pass none .none) fullShare ∧
      admits .trunk true fullShare = false) ∧
    Receives .room (roomFrame .state 11 [1]).encode (roomFrame .state 11 [1]) { listed with trunk := LinePort.reset } := by
  and_intros <;> decide +kernel

/-- The TAKE entry of `listed`. -/
def motionPoint : PointEntry := pointIn 12 .take (some .motion) (.zones #v[true, false, false, false])
/-- The same after it consumed a COMMAND of node 9/23 with toggle 1. -/
def heard : PointEntry := { motionPoint with lastCommand := some ⟨9, 23, true⟩ }

theorem witness_take :
    (Receives .room (roomFrame .state 12 [1]).encode (roomFrame .state 12 [1]) listed ∧
      Listed .room (roomFrame .state 12 [1]) motionPoint listed ∧ fits motionPoint (roomFrame .state 12 [1]) = true ∧
      motionPoint.role ≠ none) ∧
    (Receives .room (roomFrame .query 12 []).encode (roomFrame .query 12 []) listed ∧
      Listed .room (roomFrame .query 12 []) motionPoint listed) ∧
    (Receives .room (roomFrame .command 12 [1, 1]).encode (roomFrame .command 12 [1, 1]) listed ∧
      fits motionPoint (roomFrame .command 12 [1, 1]) = false) ∧
    (Receives .room (roomFrame .command 12 [1]).encode (roomFrame .command 12 [1]) { listed with points := [heard] } ∧
      Listed .room (roomFrame .command 12 [1]) heard { listed with points := [heard] } ∧
      fits heard (roomFrame .command 12 [1]) = true) ∧
    (roomFrame .command 12 [1]).originLine = 9 ∧ motionPoint.lastCommand = none := by and_intros <;> decide +kernel

/-- An unlisted code, one listed on the other side, the report points, and MANAGE kinds that are not for the device 0/1: to
node 77 of the room line 1, which crosses, and of line 3, which does not. -/
theorem witness_unlisted_and_management :
    (let unlisted := roomFrame .state 99 [1]
     Receives .room unlisted.encode unlisted listed ∧ findPoint listed 99 = none ∧
       Receives .trunk (roomFrame .command 12 [1]).encode (roomFrame .command 12 [1]) listed ∧
       findPoint listed 12 = some motionPoint ∧ motionPoint.side = .room) ∧
    (Receives .room (roomFrame .query 4004 []).encode (roomFrame .query 4004 []) base ∧
      (4004 : PointCode) = BitVec.ofNat 12 base.params.noticePoint ∧
      Receives .room (roomFrame .query 4000 []).encode (roomFrame .query 4000 []) (roomIn .occupied) ∧
      (4000 : PointCode) = BitVec.ofNat 12 ((roomIn .occupied).params.statusBase + (0 : Zone).val)) ∧
    (∀ x ∈ [(Port.trunk, Kind.manage, (0x14D : PointCode)), (.trunk, .manage, 0x34D), (.trunk, .manageReply, 0x14D),
        (.room, .manage, 0x34D), (.room, .manageReply, 0x34D)],
      Receives x.1 (roomFrame x.2.1 x.2.2 [1]).encode (roomFrame x.2.1 x.2.2 [1]) base ∧
        forDevice base (roomFrame x.2.1 x.2.2 [1]) = false) ∧
    (Receives .room (roomFrame .manageReply 1 [1]).encode (roomFrame .manageReply 1 [1]) base ∧
      forDevice base (roomFrame .manageReply 1 [1]) = true) := by and_intros <;> decide +kernel

/-- R43: the notice flags and Z0's group record, in answer to a QUERY on the port it came from. -/
theorem test_query_for_report_points :
    ((after (.frameArrival .room (roomFrame .query 4004 []).encode 0)
      { base with notices := (Vector.replicate 12 ⟨false, none, false⟩).set 9 ⟨true, some 0, false⟩ }).room.queue.map
        (·.frame.value)) = [[2, 0]] ∧
    ((after (.frameArrival .room (roomFrame .query 4000 []).encode 0) (roomIn .occupied)).room.queue.map
        (·.frame.value)) = [[3, 1, 0, 0, 0, 0, 0]] := by decide +kernel

/-- A COPY entry (MOTION of Z0): relay room, no relay room, no relay; a new COMMAND and a repeat. -/
def copyPoint : PointEntry := { pointIn 12 .copy (some .motion) (.zones #v[true, false, false, false]) with relayCode := some 300 }

theorem witness_copy :
    (∀ s ∈ [{ listed with points := [copyPoint] }, { fullShare with points := [copyPoint] },
        { listed with points := [copyPoint], trunk := LinePort.reset }],
      ∀ k ∈ [Kind.state, .command, .query, .reply],
        Receives .room (roomFrame k 12 [1]).encode (roomFrame k 12 [1]) s ∧ Listed .room (roomFrame k 12 [1]) copyPoint s) ∧
    copyPoint.role ≠ none ∧ fits copyPoint (roomFrame .command 12 [1]) = true ∧
    fits copyPoint (roomFrame .command 12 [1, 1]) = false ∧
    Consumes .room (roomFrame .command 12 [1]).encode (roomFrame .command 12 [1]) copyPoint .motion
      { listed with points := [copyPoint] } ∧
    admits .trunk true { fullShare with points := [copyPoint] } = false := by and_intros <;> decide +kernel

/-! ### Consumption -/

/-- Z0 alone in a state, with one TAKE entry of code 20. -/
def hearing (st : Occupancy) (e : PointEntry) : State := { roomIn st with points := [e] }
/-- A TAKE entry of code 20 on the room side. -/
def sensor (r : Role) (a : Attachment) : PointEntry := pointIn 20 .take (some r) a
/-- The set of Z0 alone, and the lane map whose first lane is Z0. -/
def onlyZ0 : Attachment := .zones #v[true, false, false, false]
def laneZ0 : Attachment := .lanes #v[some 0, none, some 3, none]

/-- A frame of every role, with the ends of its value range and beyond, is consumed in a sound room with Z0 VACANT. -/
theorem witness_consumes :
    ∀ x ∈ ([(.motion, onlyZ0, [1]), (.door, onlyZ0, [1]), (.seatCount, onlyZ0, [1, 144]), (.seatCount, laneZ0, [1, 145, 0, 0]),
        (.co2, onlyZ0, [19, 136]), (.lux, laneZ0, [78, 33]), (.window, onlyZ0, [2]), (.projector, onlyZ0, [1]),
        (.wallKey, onlyZ0, [16]), (.wallKey, onlyZ0, [255]), (.wallKey, onlyZ0, [17]), (.partition, .partition 0, [0]),
        (.sun, .none, [5, 220]), (.override, onlyZ0, [1, 2, 208]), (.override, onlyZ0, [3, 0, 0]),
        (.clock, .none, [6, 5, 159, 59]), (.clock, .none, [7, 0, 0, 0])] : List (Role × Attachment × List Byte)),
      Consumes .room (roomFrame .state 20 x.2.2).encode (roomFrame .state 20 x.2.2) (sensor x.1 x.2.1) x.1
        (hearing .vacant (sensor x.1 x.2.1)) ∧ RoomSound (hearing .vacant (sensor x.1 x.2.1)) ∧
        PointsSound (hearing .vacant (sensor x.1 x.2.1)) := by decide +kernel

/-- The zone such a frame reaches: Z0 through the set, and through the carried lane. -/
theorem witness_reaches : (sensor .wallKey onlyZ0).reaches 1 (roomIn .vacant) 0 ∧ (sensor .lux laneZ0).reaches 2 (roomIn .vacant) 0 ∧
    groupOf (hearing .vacant (sensor .wallKey onlyZ0)) 0 = some (0, groupIn .vacant) := by
  refine ⟨⟨by decide +kernel, rfl⟩, ⟨by decide +kernel, ⟨0, by decide +kernel⟩⟩, by decide +kernel⟩

/-- R45, R47: a seat count of 401 is clamped to 400 and marked; lanes 3 and 4, not carried, keep their values. -/
theorem test_lane_values :
    ((findPoint (after (.frameArrival .room (roomFrame .state 20 [1, 145, 0, 7]).encode 0)
      (hearing .vacant { sensor .seatCount laneZ0 with lanes := #v[none, none, some 9, none] })) 20).map
        fun e => (e.lanes, e.outOfSpan)) = some (#v[some 400, some 7, some 9, none], true) := by decide +kernel

/-- R102: weak evidence makes a VACANT group pending, and a second one within 60 s confirms it. -/
theorem test_weak_evidence_confirms :
    (let s := after (.frameArrival .room (roomFrame .state 20 [1]).encode 0) (hearing .vacant (sensor .motion onlyZ0))
     s.groups[0].map (fun g => (g.state, g.pendingSince)) = some (.vacant, some 3600) ∧
       (after (.frameArrival .room (roomFrame .state 20 [1]).encode 0) { s with elapsed := 3660 }).groups[0].map
         (fun g => (g.state, g.pendingSince)) = some (.occupied, none)) := by decide +kernel

/-- R145: a key of scene 5 at an OCCUPIED group; the same key at a group forced VACANT is discarded. -/
theorem witness_wall_key :
    ((after (.frameArrival .room (roomFrame .state 20 [5]).encode 0) (hearing .occupied (sensor .wallKey onlyZ0))).groups[0].map
      (·.manualScene)) = some (some (.scene 5)) ∧
    (let s : State := { hearing .vacant (sensor .wallKey onlyZ0) with
      groups := #v[some { groupIn .vacant with effOverride := .forceVacant }, none, none, none] }
     RoomSound s ∧ PointsSound s ∧ (after (.frameArrival .room (roomFrame .state 20 [5]).encode 0) s).groups[0].map
       (fun g => (g.state, g.manualScene)) = some (.vacant, none)) := by decide +kernel

/-- A CLOCK arrival of Sunday 23:59:59 while UNSET, 4 s and 121 s off, and equal; the sun record on both sides. -/
theorem witness_clock_and_sun :
    (hearing .vacant (sensor .clock .none)).clock = none ∧
    (after (.frameArrival .room (roomFrame .state 20 [6, 5, 159, 59]).encode 0) (hearing .vacant (sensor .clock .none))).clock =
      some ⟨6, 1439, 59⟩ ∧
    (let at' := fun w : WingTime => after (.frameArrival .room (roomFrame .state 20 [6, 5, 159, 59]).encode 0)
      { hearing .vacant (sensor .clock .none) with clock := some w }
     (at' ⟨0, 0, 1⟩).clock = some ⟨0, 0, 1⟩ ∧ (at' ⟨0, 0, 3⟩).clock = some ⟨6, 1439, 59⟩ ∧
       ((at' ⟨0, 0, 3⟩).notice .clockStepped).flag = false ∧
       ((at' ⟨0, 2, 0⟩).notice .clockStepped).detail = some 0xFFFE00) ∧
    (let sunny := fun (r : SunRecord) (v : List Byte) => (after (.frameArrival .room (roomFrame .state 20 v).encode 0)
      { hearing .vacant (sensor .sun .none) with sun := r }).sun
     sunny ⟨false, none, none⟩ [0, 250] = ⟨false, some 3600, none⟩ ∧ sunny ⟨false, some 3480, none⟩ [0, 250] = ⟨true, none, none⟩ ∧
       sunny ⟨false, some 3480, none⟩ [0, 249] = ⟨false, none, none⟩ ∧ sunny ⟨true, none, none⟩ [0, 149] = ⟨true, none, some 3600⟩ ∧
       sunny ⟨true, none, some 2700⟩ [0, 149] = ⟨false, none, none⟩ ∧
       sunny ⟨true, none, some 2700⟩ [0, 150] = ⟨true, none, none⟩) := by and_intros <;> decide +kernel

/-- Z0 and Z1 with a partition between them and its entry: closed with two groups, and open with one. -/
def parted (lo hi : Occupancy) : State :=
  { roomIn lo with
    zones := #v[some { hall with partitionToNext := true }, some hall, none, none]
    groups := #v[some (groupIn lo), some { groupIn hi with members := [1] }, none, none]
    partitions := #v[some true, none, none]
    points := [sensor .partition (.partition 0)] }
def joined (st : Occupancy) : State :=
  { parted st st with
    groups := #v[some { groupIn st with members := [0, 1], headCount := 31 }, none, none, none]
    partitions := #v[some false, none, none] }

theorem witness_partitions :
    (Consumes .room (roomFrame .state 20 [0]).encode (roomFrame .state 20 [0]) (sensor .partition (.partition 0)) .partition
        (parted .noShow .prepare) ∧ RoomSound (parted .noShow .prepare) ∧
      PointsSound (parted .noShow .prepare) ∧
      groupOf (parted .noShow .prepare) 0 = some (0, groupIn .noShow) ∧
      groupOf (parted .noShow .prepare) 1 = some (1, { groupIn .prepare with members := [1] }) ∧
      (parted .noShow .prepare).partitions[(0 : Fin 3)] ≠ some false) ∧
    (Consumes .room (roomFrame .state 20 [1]).encode (roomFrame .state 20 [1]) (sensor .partition (.partition 0)) .partition
        (joined .holdover) ∧ RoomSound (joined .holdover) ∧
      PointsSound (joined .holdover) ∧
      groupOf (joined .holdover) 0 = some (0, { groupIn .holdover with members := [0, 1], headCount := 31 }) ∧
      (joined .holdover).partitions[(0 : Fin 3)] = some false) := by and_intros <;> decide +kernel

/-- R69, R71, R72, R74: PREPARE ranks above NO_SHOW; a held count of 31 over two halls of 120 m² is split 16 and 15. -/
theorem test_merge_and_split :
    ((after (.frameArrival .room (roomFrame .state 20 [0]).encode 0) (parted .noShow .prepare)).groups[0].map
      fun g => (g.members, g.state)) = some ([0, 1], .prepare) ∧
    ((after (.frameArrival .room (roomFrame .state 20 [1]).encode 0) (joined .holdover)).groups.map fun g =>
      g.map fun g => (g.members, g.state, g.headCount)) =
        #v[some ([0], .holdover, 16), some ([1], .holdover, 15), none, none] := by decide +kernel

/-- R75: the part of a group forced VACANT by one zone's override alone that loses it is released, and goes to EXPECTED for
the booking active in its zone. -/
theorem test_split_releases_forced_vacant :
    (let s : State := { joined .vacant with
      overrides := (Vector.replicate 4 ZoneOverride.reset).set 0 ⟨.forceVacant, none⟩
      groups := #v[some { groupIn .vacant with
        members := [0, 1]
        effOverride := .forceVacant
        booking := ⟨#v[none, some 1, none, none], none, 9, some .lecture, 0⟩ }, none, none, none]
      views := (Vector.replicate 4 BookingView.reset).set 1 ⟨some 1, none, none⟩ }
     RoomSound s ∧ (after (.frameArrival .room (roomFrame .state 20 [1]).encode 0) s).groups.map (fun g =>
       g.map fun g => (g.effOverride, g.state)) =
         #v[some (.forceVacant, .vacant), some (.auto, .expected), none, none]) := by decide +kernel

/-- Booking 1 of Monday 10:00 over the groups of Z0 and Z1, on the STANDBY page or about to start on the ACTIVE one. -/
def spanning : State :=
  let page := [bookingOf [0, 1, 1, 2, 88, 2, 148, 3, 0, 9, 0, 0, 0]]
  { parted .vacant .vacant with
    clock := some ⟨0, 599, 59⟩, pageA := page, pageB := page, due := { Due.reset with minute := true } }

/-- R97: a booking that starts, or is shown by a swap, over two groups enters the mismatch set with its notice. -/
theorem test_mismatch_enters :
    RoomSound spanning ∧ spanning.mismatch = [] ∧ Accepted host [13] spanning ∧
    (∀ t ∈ [after .minuteBoundary spanning, after (.swapPages host []) { spanning with clock := some ⟨0, 600, 0⟩ },
        after (.softReset host []) (after .minuteBoundary spanning)],
      t.mismatch = [1] ∧ (t.notice .partitionMismatch).flag = true ∧
        (t.notice .partitionMismatch).detail = some 0x000100) ∧
    (after (.frameArrival .room (roomFrame .state 20 [0]).encode 0) (after .minuteBoundary spanning)).mismatch = [] := by
  and_intros <;> decide +kernel

/-! ### Management, transmissions, time -/

/-- A MANAGE frame of the host to the device 0/1 that asks for READ_STATUS. -/
def manageRead : Frame := ⟨2, .manage, 6, 2, 5, 1, false, 0, [2]⟩

theorem witness_manage_frame : Receives .trunk manageRead.encode manageRead base ∧ manageRead.kind = .manage ∧
    forDevice base manageRead = true ∧ requestCommand host manageRead.value = .readStatus host [] ∧
    requestCommand host [] = .unknownRequest host [] ∧ requestCommand host [28, 1] = .softReset host [1] ∧
    requestCommand host [29, 1] = .unknownRequest host [29, 1] := by decide +kernel

/-- In RUN: unit 1 takes node 9/17 on the room line into HOLD, unit 2 point 40 on either line, unit 4 is full of hits. -/
def watched : State :=
  { inRun with
    matchUnits := #v[⟨true, .room, true, 9 * 256 + 17, true, 0⟩, ⟨true, .either, false, 40, false, 6⟩, MatchUnit.reset,
      ⟨true, .either, false, 40, false, 65535⟩, MatchUnit.reset] }

/-- R185: "A room-port MANAGE frame that matches a CAPTURE_HOLD unit in RUN therefore meets HOLD at the management responder,
and is accepted"; R183: HOLD_ENTERED carries the unit. -/
theorem test_captured_request_meets_hold :
    (after (.readStatus tool []) watched).pins.roomSlot = some .ack ∧ (after (.readStatus tool []) watched).hold = true ∧
    ((after (.readStatus tool []) watched).captures.map fun r => (r.unit, r.frame.target, r.length)) = [(1, 1, 1)] ∧
    ((after (.readStatus tool []) watched).notice .holdEntered).detail = some 0x010000 := by decide +kernel

/-- R186: a frame matched by two units gives two records; the count of a unit saturates; a full queue discards and counts. -/
theorem test_two_units_take_a_frame :
    ((after (.frameArrival .trunk (roomFrame .state 40 [1]).encode 0) watched).captures.map (·.unit)) = [2, 4] ∧
    (after (.frameArrival .trunk (roomFrame .state 40 [1]).encode 0) watched).matchUnits[1].hits = 7 ∧
    (after (.frameArrival .trunk (roomFrame .state 40 [1]).encode 0) watched).matchUnits[3].hits = 65535 := by
  decide +kernel

theorem witness_match_units : CountsSound watched ∧
    Receives .trunk (roomFrame .state 40 [1]).encode (roomFrame .state 40 [1]) watched ∧
    (watched.matchUnits[(1 : Fin 5)]).Takes .trunk (roomFrame .state 40 [1]) ∧
    (watched.matchUnits[(0 : Fin 5)]).Takes .room (requestFrame tool [2] watched) ∧
    (watched.matchUnits[(0 : Fin 5)]).hold = true ∧ watched.hold = false ∧
    (Instr.readStatus tool []).shows watched = some (.room, requestFrame tool [2] watched) ∧
    (after (.readStatus tool []) watched).hold ≠ watched.hold ∧
    (let full : State := { watched with captures := List.replicate 31 ⟨true, .room, roomFrame .state 40 [1], 1, none, 2⟩ }
     CountsSound full ∧ 32 < full.captures.length + (recordsMade false .trunk (roomFrame .state 40 [1]) full).length) ∧
    sendingOf (roomQueue [queued .drive false true 1] watched).room.queue = some (queued .drive false true 1) := by
  and_intros <;> decide +kernel

/-- The trunk queue full. -/
def fullTrunk : State :=
  { base with trunk := { LinePort.reset with
      up := true
      queue := (List.range 16).map fun k => queued .reply false false k
      nextOrder := 16 } }

theorem witness_turned_away :
    (Instr.readStatus tool []).requestOf = some (tool, [2]) ∧ carriable tool [2] = true ∧
    receiving tool.port inRun = true ∧ (arrivedBy tool [2] inRun).hold = false ∧ receiving host.port base = true ∧
    ({ base with lastRequester := some ⟨2, 5, false⟩ } : State).lastRequester = some ⟨host.line, host.node, host.toggle⟩ ∧
    capacity host.port ≤ (fullTrunk.port host.port).queue.length ∧ receiving host.port fullTrunk = true ∧
    (Instr.softReset host []).requestOf = some (host, [28]) := by decide +kernel

/-- Two frames WAITING in the room queue. -/
def twoWaiting : State := roomQueue [queued .relay true false 1, queued .drive false false 2] base

theorem witness_frame_start : (twoWaiting.port .room).up = true ∧ QueueOrdered (twoWaiting.port .room) ∧
    (∀ e ∈ (twoWaiting.port .room).queue, e.sending = false) ∧ (twoWaiting.port .room).queue ≠ [] ∧
    (base.port .room).queue = [] := by decide +kernel

/-- The frame of the damper's entry SENDING. -/
def sendingEntry : State := roomQueue [queued (.output 3) false true 1] (withDamper .queued)

theorem witness_entry_outcomes : sendingOf sendingEntry.room.queue = some (queued (.output 3) false true 1) ∧
    (queued (.output 3) false true 1).frame.kind = .command ∧ findOutput sendingEntry 3 = some (damper .queued) ∧
    (damper .queued).sent = some ⟨500, 0⟩ ∧ heardOutcome none = .unheard ∧ heardOutcome (some (6, 6)) = .unheard ∧
    heardOutcome (some (19, 236)) = .busy ∧ heardOutcome (some (6, 249)) = .ack ∧
    heardOutcome (some (21, 234)) = .nak := by decide +kernel

/-- A relayed COMMAND SENDING with its record. -/
def sendingCopy (n : Nat) : State := roomQueue [queued (.delivery 305 n) true true 1] base

theorem witness_relayed_outcomes : (sendingCopy 2).room.up = true ∧ QueueBounded .room (sendingCopy 2).room ∧
    QueueOrdered (sendingCopy 2).room ∧
    sendingOf (sendingCopy 2).room.queue = some (queued (.delivery 305 2) true true 1) ∧
    sendingOf (sendingCopy 3).room.queue = some (queued (.delivery 305 3) true true 1) ∧
    (queued (.delivery 305 2) true true 1).relayed = true := by decide +kernel

/-- A drive SENDING, its reply deferred to the host, on a code without and with an entry. -/
def driving : State :=
  { roomQueue [queued .drive false true 1] base with
    drive := some ⟨(queued .drive false true 1).frame, true⟩
    deferred := some ⟨.trunk, 2, 5, 2, none⟩ }

theorem witness_drive_end : sendingOf driving.room.queue = some (queued .drive false true 1) ∧
    driving.drive = some ⟨(queued .drive false true 1).frame, true⟩ ∧ outputOfCode driving 40 = none ∧
    outputOfCode { driving with outputs := [damper .pending] } 40 = some (damper .pending) ∧
    findOutput { driving with outputs := [damper .pending] } 3 = some (damper .pending) ∧
    driving.deferred = some ⟨.trunk, 2, 5, 2, none⟩ ∧ driving.trunk.up = true ∧ driving.trunk.queue.length < 16 := by
  decide +kernel

/-- AIR_LIMITED pending; and the report of Z0's group pending. -/
def noticePending : State :=
  { base with notices := (Vector.replicate 12 ⟨false, none, false⟩).set 9 ⟨true, some 0, true⟩ }
def reportWaiting : State :=
  { roomIn .vacant with groups := #v[some { groupIn .vacant with reportPending := true }, none, none, none] }
def replyWaiting : State := { base with deferred := some ⟨.trunk, 2, 5, 2, some .ack⟩ }

theorem witness_trunk_offers : admits .trunk false replyWaiting = true ∧ admits .trunk false noticePending = true ∧
    (noticePending.notice .airLimited).pending = true ∧ (∀ d ∈ noticePending.deferred, d.port = .trunk → d.outcome = none) ∧
    admits .trunk false reportWaiting = true ∧
    reportWaiting.groups[0] = some { groupIn .vacant with reportPending := true } := by decide +kernel

theorem witness_lower_notices_clear : (∀ j : NoticeKind, j.code < NoticeKind.airLimited.code →
      (noticePending.notice j).pending = false) ∧ ∀ k, (reportWaiting.notice k).pending = false := by
  constructor <;> (intro k; cases k <;> decide +kernel)

theorem witness_room_offers :
    admits .room false { base with drive := some ⟨(queued .drive false false 1).frame, false⟩ } = true ∧
    admits .room false (withDamper .pending) = true ∧ OutputsSound (withDamper .pending) ∧
    (∀ e ∈ (withDamper .pending).outputs, eligible (withDamper .pending) e = true ∧
      ∀ x ∈ (withDamper .pending).outputs, x = e) := by decide +kernel

/-- The clock at Sunday 23:59:59 with the minute boundary due, and at Monday 00:00:58 and 59 with none due. -/
def weekEnd : State := { roomIn .vacant with clock := some ⟨6, 1439, 59⟩, due := { Due.reset with minute := true } }

theorem witness_wing_time : weekEnd.due.minute = true ∧ weekEnd.clock = some ⟨6, 1439, 59⟩ ∧ base.due.minute = false ∧
    base.clock = none ∧ ({ base with clock := some ⟨0, 0, 58⟩ } : State).due.minute = false ∧ Settled base ∧
    (after .elapsedSecondTick { base with clock := some ⟨0, 0, 59⟩ }).due.minute = true ∧
    (after .minuteBoundary weekEnd).clock = some ⟨0, 0, 0⟩ := by decide +kernel

/-- Z0 on Monday at the last second before 11:00, with an EXAM that ends then and a lecture that starts then. -/
def beforeEleven (st : Occupancy) (exam lecture : Bool) : State :=
  { roomIn st with
    clock := some ⟨0, 659, 59⟩
    pageA := (if exam then [bookingOf [0, 1, 1, 2, 88, 2, 148, 1, 0, 9, 2, 0, 0]] else []) ++
      (if lecture then [bookingOf [0, 2, 1, 2, 148, 2, 208, 1, 0, 9, 0, 0, 0]] else [])
    views := (Vector.replicate 4 BookingView.reset).set 0 ⟨if exam then some 1 else none, none, none⟩
    groups := #v[some { groupIn st with
      lastPresence := some 3000
      booking := ⟨#v[if exam then some 1 else none, none, none, none], none, 9, if exam then some .exam else none, 0⟩ },
      none, none, none]
    due := { Due.reset with minute := true, groupTick := #v[true, false, false, false] } }

/-- R95, R105: a booking that starts takes a VACANT group to EXPECTED with its no-show deadline, one that ends takes EXPECTED
to VACANT. -/
theorem witness_bookings_start_and_end :
    ((after .minuteBoundary (beforeEleven .vacant false true)).groups[0].map fun g => (g.state, g.noShowDeadline)) =
      some (.expected, some 4500) ∧
    ((after .minuteBoundary (beforeEleven .expected true false)).groups[0].map fun g => (g.state, g.attended)) =
      some (.vacant, false) := by decide +kernel

/-- R144: a booking that starts clears the manual scene of an OCCUPIED group; a minute boundary at which none starts keeps it. -/
theorem witness_booking_start_clears_manual_scene :
    (let s := fun (lecture : Bool) => ({ beforeEleven .occupied false lecture with
      groups := #v[some { groupIn .occupied with lastPresence := some 3000, manualScene := some (.scene 5) },
        none, none, none] } : State)
     BookingListsSound (s true) ∧ RoomSound (s true) ∧ (s true).views[0].active = none ∧
       (after .minuteBoundary (s true)).views[0].active = some 2 ∧
       (after .minuteBoundary (s true)).groups[0].map (·.manualScene) = some none ∧
       (after .minuteBoundary (s false)).groups[0].map (·.manualScene) = some (some (.scene 5))) := by
  and_intros <;> decide +kernel

/-- R96, R103: where an EXAM ends at a minute boundary of this second, the tick leaves the group's tick due; the boundary taken
first shows HOLDOVER in the same second, the group's tick taken first does not. -/
theorem test_exam_ends_then_quiet_time :
    (let s := after .elapsedSecondTick { beforeEleven .occupied true false with elapsed := 3599, due := Due.reset }
     s.due.minute = true ∧ s.due.groupTick[0] = true ∧
       (after (.quietTimeExpiry 0) (after .minuteBoundary s)).groups[0].map (·.state) = some .holdover ∧
       (after (.quietTimeExpiry 0) s).due.groupTick[0] = false ∧
       (after .minuteBoundary (after (.quietTimeExpiry 0) s)).groups[0].map (·.state) = some .occupied) := by decide +kernel

/-- A tick: nothing expires (Z0 OCCUPIED with no presence yet), an EXAM holds at second 59, and a holdover ends with the
second, where 3600 is a multiple of 30 and of 10 and the window has been open for 120 s. -/
def ticking (g : Group) : State :=
  { roomIn .vacant with
    groups := #v[some g, none, none, none]
    elapsed := 3599
    evidence := (Vector.replicate 4 EvidenceRecord.reset).set 0 ⟨none, none, some 3480⟩ }
def examNow : State := { beforeEleven .occupied true false with elapsed := 3599, due := Due.reset }
/-- The same room with the minute boundary and its group's tick left due at the end of the second. -/
def leftDue : State := beforeEleven .occupied true false

/-- Nothing is left due in the ticking state, so the groups the tick meets are its own. -/
theorem witness_tick_nothing_left :
    afterAll (leftCommands (ticking (groupIn .occupied))) (ticking (groupIn .occupied)) = ticking (groupIn .occupied) :=
  afterAll_of_unchanged (by decide +kernel)

theorem witness_tick :
    (RoomSound (ticking (groupIn .occupied)) ∧ OutputsSound (ticking (groupIn .occupied)) ∧
      (let t := after .elapsedSecondTick (ticking (groupIn .occupied))
       t.groups[0].map (·.lastPresence) = some (some 3600) ∧ t.due.periodic[0] = true ∧ t.due.lightTick[0] = true ∧
         t.due.dwell[0] = true ∧ t.due.groupTick[0] = false)) ∧
    (RoomSound (ticking { groupIn .holdover with holdoverDeadline := some 3600 }) ∧
      (after .elapsedSecondTick (ticking { groupIn .holdover with holdoverDeadline := some 3600 })).due.groupTick[0] =
        true) ∧
    (RoomSound examNow ∧ OutputsSound examNow ∧ (after .elapsedSecondTick examNow).due.groupTick[0] = true ∧
      (after .elapsedSecondTick examNow).due.minute = true) := by and_intros <;> decide +kernel

/-- Log 3: a tick takes the minute boundary and the group's tick that the second before left due, before its own second. -/
theorem witness_tick_takes_what_is_left : RoomSound leftDue ∧ OutputsSound leftDue ∧ leftDue.due.minute = true ∧
    leftDue.due.groupTick[0] = true ∧ (after .elapsedSecondTick leftDue).clock = some ⟨0, 660, 1⟩ ∧
    (after .elapsedSecondTick leftDue).groups[0].map (·.state) = some .holdover := by and_intros <;> decide +kernel

/-- Log 3: QUIET_TIME_EXPIRY takes a tick left due in which no expiry is reached, here one that sets the last presence. -/
theorem test_quiet_takes_a_left_tick :
    (let t := after (.quietTimeExpiry 0)
      { roomIn .occupied with due := { Due.reset with groupTick := #v[true, false, false, false] } }
     t.due.groupTick[0] = false ∧ t.groups[0].map (·.lastPresence) = some (some 3600)) := by decide +kernel

/-- A CLOCK point whose deadline is this second, and one whose deadline is ahead. -/
def silentClock : State :=
  { roomIn .vacant with
    points := [{ pointIn 300 .take (some .clock) .none with supervision := .live, deadline := some 3600 }] }

theorem witness_silence :
    findPoint silentClock 300 =
      some { pointIn 300 .take (some .clock) .none with supervision := .live, deadline := some 3600 } ∧
    silentClock.elapsed = 3600 ∧ findPoint listed 12 = some motionPoint ∧ motionPoint.deadline = none ∧
    Settled listed := by decide +kernel

/-- The due group tick of Z0's group. -/
def tickDue (g : Group) : State :=
  { roomIn .vacant with
    groups := #v[some g, none, none, none]
    due := { Due.reset with groupTick := #v[true, false, false, false] } }
def inHoldover : Group := { groupIn .holdover with holdoverDeadline := some 3600, headCount := 12 }
def unattended : Group := { groupIn .expected with noShowDeadline := some 3600 }
def quiet : Group := { groupIn .occupied with lastPresence := some 3000, headCount := 12 }

theorem witness_group_deadlines :
    (groupOf (tickDue inHoldover) 0 = some (0, inHoldover) ∧ (tickDue inHoldover).due.groupTick[(0 : Zone)] = true ∧
      effectiveOverride (tickDue inHoldover) inHoldover.members = .auto ∧
      overrideReached (tickDue inHoldover) inHoldover = false ∧ inHoldover.holdoverDeadline = some 3600) ∧
    (groupOf (tickDue unattended) 0 = some (0, unattended) ∧
      effectiveOverride (tickDue unattended) unattended.members = .auto ∧
      overrideReached (tickDue unattended) unattended = false ∧ (tickDue unattended).elapsed = 3600) ∧
    (groupOf (tickDue quiet) 0 = some (0, quiet) ∧ effectiveOverride (tickDue quiet) quiet.members = .auto ∧
      overrideReached (tickDue quiet) quiet = false ∧ (seatSum (tickDue quiet) quiet.members).getD 0 = 0 ∧
      examHolds (tickDue quiet) quiet = false ∧ 3000 + (tickDue quiet).params.quietTime ≤ (tickDue quiet).elapsed) := by
  decide +kernel

/-- Z0 forced, the override expiring this second. -/
def forced (m : OverrideMode) (st : Occupancy) : State :=
  { tickDue { groupIn st with effOverride := m, overrideExpiry := some 3600 } with
    overrides := (Vector.replicate 4 ZoneOverride.reset).set 0 ⟨m, some 3600⟩ }

theorem witness_override_expiry :
    groupOf (forced .forceOccupied .occupied) 0 =
      some (0, { groupIn .occupied with effOverride := .forceOccupied, overrideExpiry := some 3600 }) ∧
    groupOf (forced .forceVacant .vacant) 0 =
      some (0, { groupIn .vacant with effOverride := .forceVacant, overrideExpiry := some 3600 }) ∧
    (forced .forceOccupied .occupied).overrides[(0 : Zone)].expiry = some 3600 ∧
    (forced .forceOccupied .occupied).due.groupTick[(0 : Zone)] = true ∧
    0 < (forced .forceOccupied .occupied).params.holdoverBooked ∧
    0 < (forced .forceOccupied .occupied).params.holdoverUnbooked ∧
    0 < (forced .forceOccupied .occupied).params.noShowLimit := by decide +kernel

/-- Z0 OCCUPIED with a WINDOW point open since 120 s, evaluations due. -/
def windowed : State :=
  { roomIn .occupied with
    points := [{ pointIn 14 .take (some .window) (.zones #v[true, false, false, false]) with
      supervision := .live, last := some (.number 1) }]
    evidence := (Vector.replicate 4 EvidenceRecord.reset).set 0 ⟨none, none, some 3480⟩
    due := { Due.reset with periodic := #v[true, false, false, false], dwell := #v[true, false, false, false] } }

theorem witness_air : windowed.zones[(0 : Zone)] = some hall ∧ groupOf windowed 0 = some (0, groupIn .occupied) ∧
    windowed.due.periodic[(0 : Zone)] = true ∧ windowed.due.dwell[(0 : Zone)] = true ∧
    windowed.evidence[(0 : Zone)].windowOpenedAt = some 3480 ∧ windowOpen windowed 0 = true ∧ hall.inRange = true ∧
    windowOpen (roomIn .occupied) 0 = false ∧ (roomIn .occupied).due.periodic[(0 : Zone)] = false ∧
    Settled (roomIn .occupied) := by decide +kernel

/-- Two LIVE CO2 points of Z0, 900 and 1051 ppm. -/
def stuffy : State :=
  { roomIn .occupied with
    points := [{ pointIn 15 .take (some .co2) (.zones #v[true, false, false, false]) with
        supervision := .live, last := some (.number 900) },
      { pointIn 16 .take (some .co2) (.zones #v[true, false, false, false]) with
        supervision := .live, last := some (.number 1051) }] }

theorem witness_effective_error : contributions stuffy .co2 0 = [900, 1051] ∧ contributions base .co2 0 = [] := by
  decide +kernel

/-- A zone without facade under a DAYLIGHT scene with a LIVE lux of 300, its light tick due. -/
def daylit : State :=
  { roomIn .occupied with
    zones := #v[some { hall with facade := false }, none, none, none]
    points := [{ pointIn 17 .take (some .lux) (.zones #v[true, false, false, false]) with
      supervision := .live, last := some (.number 300) }]
    scenes := (Vector.replicate 16 none).set 0
      (some ⟨#v[.daylight 500 100 400, .fixed 300, .fixed 300, .fixed 300], none, none, 5⟩)
    light := (Vector.replicate 4 LightRecord.reset).set 0
      { LightRecord.reset with scene := some (.scene 1), modes := #v[true, false, false, false], levels := #v[400, 300, 300, 300] }
    due := { Due.reset with lightTick := #v[true, false, false, false] } }

/-- R148: e = 200 lux, gain 40, share 1000: the change is 80 per-mille. -/
theorem test_daylight_step : (after (.lightTick 0) daylit).light[0].levels = #v[480, 300, 300, 300] := by decide +kernel

theorem witness_light_tick : daylit.zones[(0 : Zone)] = some { hall with facade := false } ∧
    daylit.due.lightTick[(0 : Zone)] = true ∧ groupOf daylit 0 = some (0, groupIn .occupied) ∧
    luxOf daylit 0 = some 300 ∧ daylit.light[(0 : Zone)].scene = some (.scene 1) ∧
    daylit.light[(0 : Zone)].fadeEnd = none ∧ daylit.light[(0 : Zone)].motionEnd = none ∧
    (let faced : State := { daylit with zones := #v[some hall, none, none, none] }
     faced.zones[(0 : Zone)] = some hall ∧ hall.facade = true ∧ luxOf faced 0 = some 300 ∧
       groupOf faced 0 = some (0, groupIn .occupied)) := by decide +kernel

/-- R150: with a facade and a height, the due light tick sends the blinds; R148: which then are in motion, so no step. -/
theorem test_light_tick_sends_the_blinds :
    (let s : State := { daylit with
      zones := #v[some hall, none, none, none]
      scenes := (Vector.replicate 16 none).set 0
        (some ⟨#v[.daylight 500 100 400, .fixed 300, .fixed 300, .fixed 300], some 1000, none, 5⟩) }
     (after (.lightTick 0) s).light[0].blindSent = some ⟨1000, 0⟩ ∧ (after (.lightTick 0) s).light[0].motionEnd = some 3660 ∧
       (after (.lightTick 0) s).light[0].levels = #v[400, 300, 300, 300]) := by decide +kernel

/-- Entries in every state that a handed value meets, and a WAITING frame of the QUEUED one. -/
theorem witness_handed_values :
    (∀ st ∈ [OutState.idle, .pending, .queued, .backoff, .confirmed, .unanswered, .refused], OutputsSound (withDamper st)) ∧
    (damper .queued).zone = 0 ∧ (damper .queued).function = .airflow ∧
    (handTo 0 .airflow ⟨700, 0⟩ (roomQueue [queued (.output 3) false false 1] (withDamper .queued))).room.queue.map
      (·.frame.value) = [[2, 188]] := by decide +kernel

/-- A blind target waiting for the spacing that ends this second. -/
def spacing : State :=
  { roomIn .occupied with
    light := (Vector.replicate 4 LightRecord.reset).set 0
      { LightRecord.reset with blindTarget := some ⟨1000, 700⟩, blindSent := some ⟨0, 0⟩, lastSend := some 3580 } }

theorem witness_spacing_end : spacing.zones[(0 : Zone)] = some hall ∧ spacing.light[(0 : Zone)].lastSend = some 3580 ∧
    3580 + spacing.params.blindSpacing = spacing.elapsed ∧
    spacing.light[(0 : Zone)].blindTarget = some ⟨1000, 700⟩ ∧ spacing.light[(0 : Zone)].blindSent ≠ some ⟨1000, 700⟩ ∧
    windowOpen spacing 0 = false := by decide +kernel

/-- The damper's entry with its timer reached. -/
def timed (st : OutState) : State := { base with outputs := [{ damper st with timer := some 60 }], elapsed := 60 }

theorem witness_timers : OutputsSound (timed .backoff) ∧
    findOutput (timed .backoff) 3 = some { damper .backoff with timer := some 60 } ∧
    findOutput (timed .confirmed) 3 = some { damper .confirmed with timer := some 60 } ∧
    findOutput (timed .unanswered) 3 = some { damper .unanswered with timer := some 60 } ∧
    (timed .backoff).elapsed = 60 ∧ Settled (timed .backoff) := by decide +kernel

theorem witness_accepted : Settled base ∧ Accepted host [1] base ∧ Accepted host [2] base ∧
    Accepted host [5, 0, 10, 0] base ∧ Accepted host [7, 0, 4] (roomIn .vacant) ∧ Accepted host [10, 63] base ∧
    Accepted host [14, 1, 0, 1, 1] base ∧ Accepted host [18, 28] base ∧ Accepted host [20] base ∧
    Accepted host [23] base ∧ Accepted host [] base ∧ Accepted host [99] base ∧ unknownWellFormed [99] = true ∧
    unknownWellFormed [] = true ∧ Accepted tool [24] inRun ∧ Accepted tool [2] watched ∧ base.elapsed < 4294967296 ∧
    (∀ r ∈ (acceptedBy tool [23] watched).captures, r.frame.value.length ≤ 8) ∧ Accepted tool [23] watched ∧
    present (roomIn .vacant) (zoneAt 0) = true := by and_intros <;> decide +kernel

/-- R174: the last second that fits the four bytes of READ_STATUS is carried as it is. -/
theorem test_last_second_of_status :
    ((after (.readStatus host []) { base with elapsed := 4294967295 }).trunk.queue.map fun q =>
      (q.frame.value.drop 19).take 4) = [[255, 255, 255, 255]] := by decide +kernel

/-- Log 5: an unknown request whose value begins with a listed code is that request: DESCRIBE's 14 bytes behind 1 and OK. -/
theorem test_unknown_with_a_listed_code :
    ((after (.unknownRequest host [1]) base).trunk.queue.map (·.frame.value.length)) = [16] := by decide +kernel

/-- LOAD_POINT of a MOTION point 12 of Z0: side ROOM, TAKE, no relay code, role 1, zones 1, no map, limit 60. -/
def motionArgs : List Byte := [0, 20, 0, 1, 255, 255, 1, 1, 1, 0, 0, 0, 0, 0, 0, 0, 0, 0, 0, 0, 0, 0, 60]

theorem witness_points : PointsSound listed ∧ Accepted host (3 :: motionArgs) listed ∧ motionArgs.length = 23 ∧ listed.hold = true ∧
    pointConsistent motionArgs = true ∧ pointCodeTaken listed (pointOf motionArgs).code = false ∧
    listed.points.length < 384 ∧ findPoint listed (pointOf motionArgs).code = none ∧
    Accepted host [4, 0, 10] listed ∧ Accepted host [4, 0, 99] listed ∧ findPoint listed (BitVec.ofNat 12 (u16 [0, 10] 0)) = some (pointIn 10 .block none .none) ∧
    findPoint listed (BitVec.ofNat 12 (u16 [0, 99] 0)) = none ∧ Accepted host (3 :: motionArgs) inRun ∧ Accepted host [4, 0, 10] inRun ∧
    inRun.hold = false ∧ PointsSound inRun := by and_intros <;> decide +kernel

/-- R50, R54, R55: with the deleted entry was the only last value of its partition, or of the sun. -/
theorem test_deleted_point_leaves_no_value :
    (let s : State := { parted .vacant .vacant with
      points := [{ sensor .partition (.partition 0) with last := some (.number 1) }] }
     Accepted host [4, 0, 20] s ∧ (after (.deletePoint host [0, 20]) s).partitions[0] = none) ∧
    (let s : State := { hearing .vacant { sensor .sun .none with last := some (.number 300) } with
      irradiance := some 300, sun := ⟨false, some 3500, none⟩ }
     Accepted host [4, 0, 20] s ∧ (after (.deletePoint host [0, 20]) s).irradiance = none ∧
       (after (.deletePoint host [0, 20]) s).sun = ⟨false, none, none⟩) := by and_intros <;> decide +kernel

/-- Every refusal of LOAD_POINT and DELETE_POINT: a wrong length, role 0 under TAKE, the codes of a report point and of an
outbound entry, a code above 4095. -/
theorem witness_point_refusals :
    (let short : List Byte := [0, 20]
     let noRole := motionArgs.set 6 0
     Accepted host (3 :: short) base ∧ short.length ≠ 23 ∧ Accepted host (3 :: noRole) base ∧ noRole.length = 23 ∧
       pointConsistent noRole = false ∧ base.hold = true) ∧
    (let wide := motionArgs.set 0 16
     Accepted host (3 :: wide) base ∧ wide.length = 23 ∧ pointConsistent wide = true ∧ pointInRange wide = false) ∧
    (let notice := (motionArgs.set 0 15).set 1 164
     Accepted host (3 :: notice) base ∧ pointConsistent notice = true ∧ pointCodeTaken base (pointOf notice).code = true ∧
       pointCodeTaken (withDamper .confirmed) (pointOf (motionArgs.set 1 40)).code = true) ∧
    (Accepted host [4, 0] base ∧ Accepted host [4, 16, 0] base ∧ 4095 < u16 ([16, 0] : List Byte) 0) := by
  and_intros <;> decide +kernel

/-- A point table with all its 384 places taken, by codes 100 to 483. -/
def fullTable : State := { base with points := (List.range 384).map fun k => pointIn (BitVec.ofNat 12 (100 + k)) .block none .none }

theorem witness_table_full : PointsSound fullTable ∧ Accepted host (3 :: motionArgs) fullTable ∧ 384 ≤ fullTable.points.length ∧
    findPoint fullTable (pointOf motionArgs).code = none ∧ pointCodeTaken fullTable (pointOf motionArgs).code = false := by
  and_intros <;> decide +kernel

/-- Bits and bytes that stand for nothing are 0 here, so the request is in range whatever log 13's constant is. -/
theorem witness_point_in_range : pointInRange motionArgs = true := by
  simp [pointInRange, attachmentInRange, mapInRange, motionArgs, spareByteOk, spareOk, u8, u16]

/-- LOAD_ZONE of Z0: 120 m², walk-in 10, 3000, 600, 150, no partition, facade. -/
def hallArgs : List Byte := [0, 1, 0, 120, 10, 11, 184, 2, 88, 0, 150, 2]

theorem witness_load_zone : Accepted host (6 :: hallArgs) base ∧ hallArgs.length = 12 ∧ base.hold = true ∧
    zoneInUse base hallArgs = false ∧ zoneConfigOf hallArgs = hall ∧ Accepted host [6] inRun ∧ inRun.hold = false := by
  decide +kernel

theorem witness_zone_in_range : zoneInRange base hallArgs = true := by
  have h : (zoneConfigOf hallArgs).inRange = true ∧ belowPresent base 0 = true := by decide +kernel
  simpa [zoneInRange, hallArgs, spareOk, u8] using h

/-- LOAD_OUTPUT of index 3: code 40, Z0, AIRFLOW, deadband 5, refresh 300. -/
def damperArgs : List Byte := [3, 0, 40, 0, 0, 5, 1, 44]

theorem witness_load_output : Accepted host (8 :: damperArgs) base ∧ OutputsSound base ∧ base.hold = true ∧ damperArgs.length = 8 ∧
    outputInRange damperArgs = true ∧ outputCodeTaken base (outputOf damperArgs) = false ∧
    outputPlacesTaken base (outputOf damperArgs) = false ∧ outputInUse base (outputOf damperArgs) = false ∧
    Accepted host [8] inRun ∧ inRun.hold = false := by and_intros <;> decide +kernel

theorem witness_delete_output : Accepted host [9, 3] (withDamper .confirmed) ∧
    findOutput (withDamper .confirmed) (indexAt (u8 [3] 0)) = some (damper .confirmed) ∧
    Accepted host [9, 3] (withDamper .queued) ∧ Accepted host [9, 3] base ∧ Accepted host [9, 3] inRun := by
  and_intros <;> decide +kernel

/-- LOAD_BOOKING 1: Monday 10:00 to 11:00 in Z0, 9 persons. -/
def bookingArgs : List Byte := [0, 1, 1, 2, 88, 2, 148, 1, 0, 9, 0, 10, 0]

theorem witness_bookings : Accepted host (11 :: bookingArgs) (roomIn .vacant) ∧ bookingArgs.length = 13 ∧
    Accepted host [12] (roomIn .vacant) ∧ Accepted host [13] (roomIn .vacant) := by decide +kernel

theorem witness_booking_in_range : bookingInRange (roomIn .vacant) bookingArgs = true := by
  have h : (zonesOf (bookingOf bookingArgs).zones).all (present (roomIn .vacant)) = true := by decide +kernel
  have hs : ∀ k, spareOk 11 k 0 = true := by simp [spareOk]
  unfold bookingInRange
  dsimp only
  rw [h]
  simp [bookingOf, bookingArgs, u8, u16, hs]

/-- R89: a walk of a page that holds bookings 1 and 2: the first, the one that follows it, and NOT_FOUND after the last; id 0
names none in the form this. -/
theorem witness_read_booking_forms :
    (let s : State := { base with pageA := [bookingOf bookingArgs, { bookingOf bookingArgs with id := 2, start := 700, stop := 760 }] }
     let reply := fun (id form : Byte) =>
       (after (.readBooking host [0, 0, id, form]) s).trunk.queue.map fun q => q.frame.value.take 4
     Accepted host [14, 0, 0, 1, 1] s ∧ reply 0 1 = [[14, 0, 0, 1]] ∧ reply 1 1 = [[14, 0, 0, 2]] ∧
       (reply 2 1).map (·.length) = [2] ∧ (reply 0 0).map (·.length) = [2] ∧ reply 2 0 = [[14, 0, 0, 2]]) := by
  and_intros <;> decide +kernel

/-- LOAD_SCENE 1: all channels FIXED 300, heights kept, fade 5; LOAD_PROFILE 1. -/
def sceneArgs : List Byte :=
  [1, 0, 1, 44, 0, 0, 0, 0, 0, 1, 44, 0, 0, 0, 0, 0, 1, 44, 0, 0, 0, 0, 0, 1, 44, 0, 0, 0, 0, 255, 255, 255, 255, 5]

theorem witness_scenes : Accepted host (15 :: sceneArgs) daylit ∧ sceneArgs.length = 34 ∧ present daylit 0 = true ∧
    daylit.light[(0 : Zone)].scene = some (.scene (u8 sceneArgs 0)) ∧
    daylit.light[(1 : Zone)].scene ≠ some (.scene (u8 sceneArgs 0)) ∧ Accepted host [16, 1, 1, 2, 3, 4, 0] daylit ∧
    profileInRange [1, 1, 2, 3, 4, 0] = true := by decide +kernel

theorem witness_scene_in_range : sceneInRange sceneArgs = true := by
  have hs : ∀ k, spareOk 15 k 0 = true := by simp [spareOk]
  simp [sceneInRange, settingInRange, settingOf, channelAt, sceneArgs, u8, u16, keepableInRange, hs]

theorem witness_parameters : Accepted host [17, 7, 0, 60] base ∧ base.params.get 29 = none ∧ base.params.get 7 ≠ none ∧
    paramInRange base.params 7 59 = false ∧ paramInRange base.params 7 60 = true ∧ paramDuplicate base 7 60 = false ∧
    paramInRange base.params 4 4001 = true ∧ paramDuplicate base 4 4001 = true ∧ paramInRange base.params 22 150 = false := by and_intros <;> decide +kernel

theorem witness_set_override : Accepted host [19, 0, 1, 2, 208] (roomIn .vacant) ∧ present (roomIn .vacant) 0 = true ∧
    u8 [0, 1, 2, 208] 0 = (0 : Zone).val ∧ u16 [0, 1, 2, 208] 2 = 720 ∧
    groupOf (roomIn .vacant) 0 = some (0, groupIn .vacant) := by decide +kernel

theorem witness_notices_and_units : Accepted host [21, 15, 255] base ∧ Accepted host [22, 5, 1, 2, 1, 15, 254, 1] base ∧
    matchInRange [5, 1, 2, 1, 15, 254, 1] = true ∧ matchInRange [6, 1, 2, 1, 15, 254, 1] = false := by decide +kernel

theorem witness_modes : Accepted host [24] inRun ∧ (acceptedBy host [24] inRun).hold = false ∧ Accepted host [25] base ∧
    (acceptedBy host [25] base).hold = true ∧ Accepted host [24] base ∧ Accepted host [25] inRun ∧ OutputsSound base := by
  and_intros <;> decide +kernel

/-- DRIVE_POINT of code 40 with the value bytes 1, 244. -/
def driveArgs : List Byte := [0, 40, 2, 1, 244, 0, 0, 0, 0, 0, 0]

theorem witness_drive : Accepted host (26 :: driveArgs) base ∧ driveArgs.length = 11 ∧ base.hold = true ∧ base.drive = none ∧
    base.deferred = none ∧ outputOfCode base 40 = none ∧ base.room.up = true ∧
    Accepted host (26 :: driveArgs) { base with room := LinePort.reset } ∧
    Settled (acceptedBy host (26 :: driveArgs) { base with room := LinePort.reset }) ∧
    Accepted host (26 :: driveArgs) inRun ∧ outputOfCode (withDamper .confirmed) 40 = some (damper .confirmed) ∧
    Accepted host (26 :: driveArgs) (withDamper .confirmed) := by and_intros <;> decide +kernel

theorem witness_room_reset : Accepted host [27] busyLines ∧ busyLines.room.up = true ∧
    Accepted host [27] { base with room := LinePort.reset } ∧ Accepted tool [27] base := by and_intros <;> decide +kernel

/-- R179, R189: the reply to a requester on the room port is in the room queue, which nothing fills. -/
theorem witness_room_reset_room_port :
    (let s : State := { busyDrive .room with outputs := [] }
     Accepted host [27] s ∧ s.drive ≠ none ∧ s.deferred = some ⟨.room, 2, 5, 2, none⟩ ∧
       (after (.roomReset host []) s).deferred = none ∧
       (after (.roomReset host []) s).room.queue.map (·.frame.value) = [[26, 0, 3]]) := by and_intros <;> decide +kernel

/-- R16, R179, R189: a room reset withdraws the relayed COMMAND of point 305 and ends the drive with NONE. -/
theorem test_room_reset_withdraws :
    Accepted host [27] (busyDrive .trunk) ∧
    (let t := after (.roomReset host []) (busyDrive .trunk)
     (t.notice .relayUndelivered).flag = true ∧ (t.notice .relayUndelivered).detail = some 0x013100 ∧
       t.deferred = none ∧ ((t.trunk.queue.filter fun q => q.owner == .reply).map (·.frame.value)) =
         [[27, 0, 1], [26, 0, 3]]) := by and_intros <;> decide +kernel

theorem witness_apportionment : (∀ a ∈ [120, 80, 100], 10 ≤ a) ∧ ([120, 80, 100] : List Nat).length ≤ 4 := by decide +kernel

theorem witness_records : motionPoint.silenceLimit < 65536 ∧ motionPoint.rangeMap = none ∧ hall.inRange = true ∧
    (bookingOf bookingArgs).id < 65536 ∧ (bookingOf bookingArgs).start < 65536 ∧ (bookingOf bookingArgs).stop < 65536 ∧
    (bookingOf bookingArgs).count < 65536 ∧ (bookingOf bookingArgs).lead < 256 ∧ (bookingOf bookingArgs).profile < 256 := by
  decide +kernel

end Sys2Proof.Tests
end

section
/-! SUPPORT. What the events of the room can do (chapters 3 to 9): evaluations, scene changes, group events, merges and splits
touch the groups and the units behind them, hand values to entries in place, and leave every port, table and record else. -/

namespace Sys2Proof.Machine

/-! ### Relations between states that a sequence of steps keeps -/

/-- A fold of steps that each keep a reflexive and transitive relation keeps it. -/
theorem foldl_related {α : Type} {R : State → State → Prop} (refl : ∀ s, R s s)
    (trans : ∀ {s t u}, R s t → R t u → R s u) {f : State → α → State} (h : ∀ s a, R s (f s a)) (l : List α) (s : State) :
    R s (l.foldl f s) := by
  induction l generalizing s with
  | nil => exact refl s
  | cons a l ih => exact trans (h s a) (ih (f s a))

/-! ### Queued frames and entries under handed values (R12, R161) -/

/-- R12: a queued frame apart from its value bytes, which a handed value may replace in place. -/
def Queued.envelope (q : Queued) : Queued := { q with frame := { q.frame with value := [] } }

/-- R161: an entry after it took one handed value. -/
def OutEntry.TookOne (e e' : OutEntry) : Prop := ∃ waiting v, e' = e.take waiting v

/-- R161: an entry after it took any number of handed values. -/
def OutEntry.Took : OutEntry → OutEntry → Prop := Relation.ReflTransGen OutEntry.TookOne

/-- R161: the entries of a table after they took handed values, each in its place. -/
def OutputsTook (l l' : List OutEntry) : Prop := List.Forall₂ OutEntry.Took l l'

theorem OutputsTook.refl (l : List OutEntry) : OutputsTook l l := by
  induction l with
  | nil => exact .nil
  | cons e l ih => exact .cons .refl ih

theorem OutputsTook.trans {l m n : List OutEntry} (a : OutputsTook l m) (b : OutputsTook m n) : OutputsTook l n := by
  induction a generalizing n with
  | nil => exact b
  | cons h _ ih =>
    cases b with
    | cons h' b => exact .cons (Relation.ReflTransGen.trans h h') (ih b)

/-- A table whose entries are each kept or handed a value. -/
theorem OutputsTook.map {f : OutEntry → OutEntry} (h : ∀ e, OutEntry.Took e (f e)) (l : List OutEntry) :
    OutputsTook l (l.map f) := by
  induction l with
  | nil => exact .nil
  | cons e l ih => exact .cons (h e) ih

/-- What each taken value keeps, and the table before it has, the table after has. -/
theorem OutputsTook.all {l l' : List OutEntry} (h : OutputsTook l l') {P : OutEntry → Prop}
    (keep : ∀ e w v, P e → P (e.take w v)) (hl : ∀ e ∈ l, P e) : ∀ e ∈ l', P e := by
  induction h with
  | nil => simp
  | @cons a b l l' ha _ ih =>
    have hb : P b := by
      have h0 : P a := hl a List.mem_cons_self
      clear ih hl
      induction ha with
      | refl => exact h0
      | tail _ h ih => obtain ⟨w, v, rfl⟩ := h; exact keep _ w v ih
    intro e he
    rcases List.mem_cons.mp he with rfl | he
    · exact hb
    · exact ih (fun x hx => hl x (List.mem_cons_of_mem _ hx)) e he

/-- R161: a taken value leaves the static fields of an entry. -/
@[simp] theorem OutEntry.restart_take (e : OutEntry) (w : Bool) (v : OutValue) : (e.take w v).restart = e.restart := by
  unfold OutEntry.take OutEntry.restart OutEntry.pend
  cases e.state <;> dsimp only <;> (repeat' split) <;> rfl

@[simp] theorem OutEntry.index_take (e : OutEntry) (w : Bool) (v : OutValue) : (e.take w v).index = e.index :=
  show (e.take w v).restart.index = e.restart.index from congrArg OutEntry.index (e.restart_take w v)

/-- R157: handed values leave the static part of the table. -/
theorem OutputsTook.map_restart {l l' : List OutEntry} (h : OutputsTook l l') :
    l'.map OutEntry.restart = l.map OutEntry.restart := by
  induction h with
  | nil => rfl
  | @cons a b l l' ha _ ih =>
    have hb : b.restart = a.restart := by
      clear ih
      induction ha with
      | refl => rfl
      | tail _ h ih => obtain ⟨w, v, rfl⟩ := h; rw [OutEntry.restart_take, ih]
    simp [hb, ih]

/-! ### What an event of the room can do -/

/-- What an event of the occupancy logic, the zone engine, the air demand unit and the light and shade unit can do; it raises
PARTITION_MISMATCH and AIR_LIMITED only. -/
structure RoomWork (s t : State) : Prop where
  frame : t = { s with
    room := { s.room with queue := t.room.queue }
    evidence := t.evidence
    groups := t.groups
    mismatch := t.mismatch
    air := t.air
    light := t.light
    outputs := t.outputs
    notices := t.notices
    free := t.free }
  queue : t.room.queue.map Queued.envelope = s.room.queue.map Queued.envelope
  outputs : OutputsTook s.outputs t.outputs
  evidence : ∀ z : Zone, t.evidence[z] = s.evidence[z] ∨ t.evidence[z] = { s.evidence[z] with pendingTime := none }
  notices : ∀ k, k ≠ .partitionMismatch → k ≠ .airLimited → t.notice k = s.notice k

/-- What an event of the evidence unit or the timetable can do besides: it writes evidence, overrides, held values, views, the
sun record and the clock, keeps wing time in its range, and raises CLOCK_STEPPED too. -/
structure RoomEvent (s t : State) : Prop where
  frame : t = { s with
    room := { s.room with queue := t.room.queue }
    evidence := t.evidence
    partitions := t.partitions
    irradiance := t.irradiance
    overrides := t.overrides
    groups := t.groups
    clock := t.clock
    freeRunning := t.freeRunning
    views := t.views
    mismatch := t.mismatch
    air := t.air
    light := t.light
    sun := t.sun
    outputs := t.outputs
    notices := t.notices
    free := t.free }
  queue : t.room.queue.map Queued.envelope = s.room.queue.map Queued.envelope
  outputs : OutputsTook s.outputs t.outputs
  notices : ∀ k, k ≠ .partitionMismatch → k ≠ .airLimited → k ≠ .clockStepped → t.notice k = s.notice k
  clock : (∀ w ∈ s.clock, w.weekday ≤ 6 ∧ w.minute ≤ 1439 ∧ w.second ≤ 59) →
    ∀ w ∈ t.clock, w.weekday ≤ 6 ∧ w.minute ≤ 1439 ∧ w.second ≤ 59

theorem RoomWork.refl (s : State) : RoomWork s s := ⟨rfl, rfl, .refl _, fun _ => .inl rfl, fun _ _ _ => rfl⟩

theorem RoomWork.trans {s t u : State} (a : RoomWork s t) (b : RoomWork t u) : RoomWork s u where
  frame := by rw [b.frame, a.frame]
  queue := b.queue.trans a.queue
  outputs := a.outputs.trans b.outputs
  evidence z := by rcases b.evidence z with h | h <;> rcases a.evidence z with h' | h' <;> simp [h, h']
  notices k h h' := (b.notices k h h').trans (a.notices k h h')

theorem RoomWork.foldl {α : Type} {f : State → α → State} (h : ∀ s a, RoomWork s (f s a)) (l : List α) (s : State) :
    RoomWork s (l.foldl f s) := foldl_related .refl .trans h l s

/-- An event of the room that only a condition prompts. -/
theorem RoomWork.ite {c : Prop} [Decidable c] {s t : State} (h : RoomWork s t) : RoomWork s (if c then t else s) := by
  split <;> [exact h; exact .refl s]

theorem RoomEvent.refl (s : State) : RoomEvent s s := ⟨rfl, rfl, .refl _, fun _ _ _ _ => rfl, id⟩

theorem RoomEvent.trans {s t u : State} (a : RoomEvent s t) (b : RoomEvent t u) : RoomEvent s u where
  frame := by rw [b.frame, a.frame]
  queue := b.queue.trans a.queue
  outputs := a.outputs.trans b.outputs
  notices k h h' h'' := (b.notices k h h' h'').trans (a.notices k h h' h'')
  clock := b.clock ∘ a.clock

theorem RoomEvent.foldl {α : Type} {f : State → α → State} (h : ∀ s a, RoomEvent s (f s a)) (l : List α) (s : State) :
    RoomEvent s (l.foldl f s) := foldl_related .refl .trans h l s

theorem RoomEvent.ite {c : Prop} [Decidable c] {s t : State} (h : RoomEvent s t) : RoomEvent s (if c then t else s) := by
  split <;> [exact h; exact .refl s]

/-- What an event of the room can do is among what an event of the evidence unit can do. -/
theorem RoomWork.event {s t : State} (h : RoomWork s t) : RoomEvent s t where
  frame := by rw [h.frame]
  queue := h.queue
  outputs := h.outputs
  notices k a b _ := h.notices k a b
  clock := by rw [h.frame]; exact id

/-- Groups and the records of the units are written freely. -/
theorem RoomWork.records (s : State) (g : PerZone (Option Group)) (a : PerZone AirRecord) (l : PerZone LightRecord)
    (m : List Nat) (n : Nat) : RoomWork s { s with groups := g, air := a, light := l, mismatch := m, free := n } :=
  ⟨rfl, rfl, .refl _, fun _ => .inl rfl, fun _ _ _ => rfl⟩

/-- R180: a raise of one of the room's notices. -/
theorem raise_roomWork {k : NoticeKind} (hk : k = .partitionMismatch ∨ k = .airLimited) (d : BitVec 24) (s : State) :
    RoomWork s (raise k d s) := by
  have hr : raise k d s = { s with notices := (raise k d s).notices } := by unfold raise; split <;> rfl
  refine ⟨by rw [hr], by rw [hr], by rw [hr]; exact .refl _, fun z => .inl (by rw [hr]), fun j hp ha => ?_⟩
  exact raise_other d s (by rcases hk with rfl | rfl <;> [exact hp.symm; exact ha.symm])

theorem raiseOneOf_roomWork {k : NoticeKind} (hk : k = .partitionMismatch ∨ k = .airLimited) (ds : List (BitVec 24))
    (s : State) : RoomWork s (raiseOneOf k ds s) := by
  by_cases h : ds = []
  · subst h; exact .refl s
  · obtain ⟨d, -, n, heq⟩ := raiseOneOf_eq h s
    rw [heq]
    exact (RoomWork.records s s.groups s.air s.light s.mismatch n).trans (raise_roomWork hk d _)

/-! ### Handed values, air and light (R133 to R152) -/

/-- R12: a replaced value is all that changes in a queued frame. -/
theorem replaceQueued_envelope (s : State) (z : Zone) (f : OutFunction) (v : OutValue) (q : Queued) :
    (replaceQueued s z f v q).envelope = q.envelope := by
  unfold replaceQueued
  (repeat' split) <;> rfl

theorem handTo_roomWork (z : Zone) (f : OutFunction) (v : OutValue) (s : State) : RoomWork s (handTo z f v s) where
  frame := rfl
  queue := by simp [handTo, replaceQueued_envelope]
  outputs := .map (fun e => by split <;> [exact .single ⟨_, _, rfl⟩; exact .refl]) _
  evidence _ := .inl rfl
  notices _ _ _ := rfl

theorem airEvaluate_roomWork (periodic : Bool) (s : State) (z : Zone) : RoomWork s (airEvaluate periodic s z) := by
  unfold airEvaluate
  split
  · exact ((RoomWork.records s s.groups _ s.light s.mismatch s.free).trans (handTo_roomWork ..)).trans (handTo_roomWork ..)
  · exact .refl s

theorem airEvaluateZones_roomWork (periodic : Bool) (zs : List Zone) (s : State) :
    RoomWork s (airEvaluateZones periodic zs s) :=
  (RoomWork.foldl (airEvaluate_roomWork periodic) zs s).trans (raiseOneOf_roomWork (.inr rfl) _ _)

theorem updateLight_roomWork (z : Zone) (f : LightRecord → LightRecord) (s : State) : RoomWork s (updateLight z f s) :=
  .records s s.groups s.air _ s.mismatch s.free

theorem blindSend_roomWork (z : Zone) (t : BlindPosition) (s : State) : RoomWork s (blindSend z t s) :=
  ((updateLight_roomWork z _ s).trans (handTo_roomWork ..)).trans (handTo_roomWork ..)

theorem testBlind_roomWork (z : Zone) (s : State) : RoomWork s (testBlind z s) := by
  unfold testBlind
  dsimp only
  split
  · split
    · exact blindSend_roomWork ..
    · exact .refl s
  · exact .refl s

theorem recomputeBlind_roomWork (z : Zone) (s : State) : RoomWork s (recomputeBlind z s) :=
  (updateLight_roomWork z _ s).trans (testBlind_roomWork z _)

theorem sceneChange_roomWork (z : Zone) (sel : Selection) (s : State) : RoomWork s (sceneChange z sel s) :=
  ((updateLight_roomWork z _ s).trans (.foldl (fun _ _ => handTo_roomWork ..) _ _)).trans (recomputeBlind_roomWork ..)

theorem selectMember_roomWork (sel : Selection) (force : Bool) (s : State) (z : Zone) :
    RoomWork s (selectMember sel force s z) := by
  exact .ite (sceneChange_roomWork ..)

theorem selectGroup_roomWork (l : Zone) (clear force : Bool) (s : State) : RoomWork s (selectGroup l clear force s) := by
  unfold selectGroup
  split
  · exact .refl s
  · exact (RoomWork.records s _ s.air s.light s.mismatch s.free).trans (.foldl (selectMember_roomWork _ force) _ _)

theorem sceneRequest_roomWork (z : Zone) (n : Nat) (s : State) : RoomWork s (sceneRequest z n s) := by
  unfold sceneRequest
  split
  · split
    · exact (RoomWork.records s _ s.air s.light s.mismatch s.free).trans (selectGroup_roomWork ..)
    · exact .refl s
  · exact .refl s

theorem daylightChannel_roomWork (z : Zone) (lux : Nat) (k : Scene) (s : State) (c : Fin 4) :
    RoomWork s (daylightChannel z lux k s c) := by
  unfold daylightChannel
  split
  · exact .refl s
  · split
    · dsimp only
      split
      · exact .refl s
      · exact (updateLight_roomWork z _ s).trans (handTo_roomWork ..)
    · exact .refl s

theorem lightTickZone_roomWork (z : Zone) (s : State) : RoomWork s (lightTickZone z s) := by
  unfold lightTickZone
  split
  · refine (recomputeBlind_roomWork z s).trans ?_
    unfold daylightStep
    split
    · exact .foldl (daylightChannel_roomWork z _ _) _ _
    · exact .refl _
  · exact .refl s

/-! ### Groups (R100 to R117) -/

theorem clearPendingTimes_roomWork (members : List Zone) (s : State) : RoomWork s (clearPendingTimes members s) where
  frame := rfl
  queue := rfl
  outputs := .refl _
  evidence z := by
    simp only [clearPendingTimes, forZones_get]
    split <;> simp
  notices _ _ _ := rfl

theorem handGroupChange_roomWork (l : Zone) (old new : Group) (started membership : Bool) (s : State) :
    RoomWork s (handGroupChange l old new started membership s) := by
  unfold handGroupChange
  exact .ite (.trans (.ite (airEvaluateZones_roomWork ..)) (selectGroup_roomWork ..))

theorem commitGroup_roomWork (l : Zone) (old new : Group) (started membership : Bool) (s : State) :
    RoomWork s (commitGroup l old new started membership s) := by
  unfold commitGroup
  refine .trans ?_ (handGroupChange_roomWork ..)
  refine .trans ?_ (.ite (clearPendingTimes_roomWork ..))
  exact .records s _ s.air s.light s.mismatch s.free

theorem groupEvent_roomWork (z : Zone) (f : Group → Group) (s : State) : RoomWork s (groupEvent z f s) := by
  unfold groupEvent
  split
  · exact commitGroup_roomWork ..
  · exact .refl s

theorem countChanges_roomWork (before s : State) : RoomWork s (countChanges before s) :=
  .foldl (fun _ _ => groupEvent_roomWork ..) _ s

theorem refreshPresentation_roomWork (s : State) (l : Zone) : RoomWork s (refreshPresentation s l) := by
  unfold refreshPresentation
  split
  · split
    · exact .refl s
    · exact (RoomWork.records s _ s.air s.light s.mismatch s.free).trans (selectGroup_roomWork ..)
  · exact .refl s

theorem refreshPresentations_roomWork (s : State) : RoomWork s (refreshPresentations s) :=
  .foldl refreshPresentation_roomWork _ s

theorem windowChanges_roomWork (before s : State) : RoomWork s (windowChanges before s) :=
  (airEvaluateZones_roomWork false _ s).trans (.foldl (fun s z => testBlind_roomWork z s) _ _)

/-! ### Zones and bookings (R68 to R76, R95, R97) -/

theorem recomputeMismatch_roomWork (s : State) : RoomWork s (recomputeMismatch s) :=
  (RoomWork.records s s.groups s.air s.light _ s.free).trans (raiseOneOf_roomWork (.inl rfl) _ _)

theorem mergeAt_roomWork (k : Fin 3) (s : State) : RoomWork s (mergeAt k s) := by
  unfold mergeAt
  split
  · split
    · exact .refl s
    · refine .trans ?_ (handGroupChange_roomWork ..)
      refine .trans ?_ (.ite (clearPendingTimes_roomWork ..))
      exact (RoomWork.records s _ s.air s.light s.mismatch s.free).trans (recomputeMismatch_roomWork _)
  · exact .refl s

theorem splitPendingTimes_roomWork (old g : Group) (s : State) : RoomWork s (splitPendingTimes old g s) := by
  exact .ite (clearPendingTimes_roomWork ..)

theorem splitAt_roomWork (k : Fin 3) (s : State) : RoomWork s (splitAt k s) := by
  unfold splitAt
  split
  · split
    · exact ((((RoomWork.records s _ s.air s.light s.mismatch s.free).trans (recomputeMismatch_roomWork _)).trans
        ((splitPendingTimes_roomWork ..).trans (splitPendingTimes_roomWork ..))).trans
        (airEvaluateZones_roomWork ..)).trans ((selectGroup_roomWork ..).trans (selectGroup_roomWork ..))
    · exact .refl s
  · exact .refl s

theorem partitionChange_roomWork (k : Fin 3) (wasOpen : Bool) (s : State) : RoomWork s (partitionChange k wasOpen s) := by
  unfold partitionChange
  split
  · exact .refl s
  · split
    · split
      · exact splitAt_roomWork k s
      · exact mergeAt_roomWork k s
    · exact .refl s

theorem partitionEvents_roomWork (before : State) (a : Attachment) (s : State) : RoomWork s (partitionEvents before a s) := by
  unfold partitionEvents
  split
  · exact partitionChange_roomWork ..
  · exact .refl s

theorem selectAfresh_roomWork (s : State) (l : Zone) : RoomWork s (selectAfresh s l) := selectGroup_roomWork ..

theorem rebuild_roomWork (s : State) : RoomWork s (rebuild s) :=
  (((RoomWork.records s _ s.air s.light s.mismatch s.free).trans (recomputeMismatch_roomWork _)).trans
    (airEvaluateZones_roomWork ..)).trans (.foldl selectAfresh_roomWork _ _)

theorem bookingViewEvent_roomWork (old : PerZone BookingView) (s : State) (l : Zone) :
    RoomWork s (bookingViewEvent old s l) := by
  unfold bookingViewEvent
  split
  · exact .refl s
  · dsimp only
    split
    · exact commitGroup_roomWork ..
    · exact .refl s

/-! ### Evidence, overrides, the sun and the clock (chapters 3, 5 and 6) -/

/-- The records of the evidence unit and the timetable are written freely. -/
theorem RoomEvent.records (s : State) (e : PerZone EvidenceRecord) (p : Vector (Option Bool) 3) (i : Option Nat)
    (o : PerZone ZoneOverride) (v : PerZone BookingView) (u : SunRecord) (r : Bool) :
    RoomEvent s { s with
      evidence := e, partitions := p, irradiance := i, overrides := o, views := v, sun := u, freeRunning := r } :=
  ⟨rfl, rfl, .refl _, fun _ _ _ _ => rfl, id⟩

theorem syncWindows_event (before s : State) : RoomEvent s (syncWindows before s) :=
  .records s _ s.partitions s.irradiance s.overrides s.views s.sun s.freeRunning

theorem recordPresence_event (strong weak : List Zone) (s : State) : RoomEvent s (recordPresence strong weak s) :=
  .records s _ s.partitions s.irradiance s.overrides s.views s.sun s.freeRunning

theorem setHeldValue_event (e : PointEntry) (r : Role) (b : List Byte) (s : State) :
    RoomEvent s (setHeldValue e r b s) := by
  unfold setHeldValue
  split
  · exact .records s s.evidence _ s.irradiance s.overrides s.views s.sun s.freeRunning
  · exact .records s s.evidence s.partitions _ s.overrides s.views s.sun s.freeRunning
  · exact .refl s

theorem expireOverrides_event (members : List Zone) (s : State) : RoomEvent s (expireOverrides members s) :=
  .records s s.evidence s.partitions s.irradiance _ s.views s.sun s.freeRunning

theorem overrideEvent_event (z : Zone) (mode : OverrideMode) (minutes : Nat) (s : State) :
    RoomEvent s (overrideEvent z mode minutes s) := by
  unfold overrideEvent
  split
  · exact (RoomEvent.records s s.evidence s.partitions s.irradiance _ s.views s.sun s.freeRunning).trans
      (groupEvent_roomWork ..).event
  · exact .refl s

theorem deliverZone_event (d : Delivery) (z : Zone) (s : State) : RoomEvent s (deliverZone d z s) := by
  unfold deliverZone
  split
  · exact (sceneRequest_roomWork ..).event
  · exact overrideEvent_event ..
  · exact .refl s
  · exact .refl s

theorem zoneEvents_event (before : State) (strong weak reached : List Zone) (d : Delivery) (s : State) (z : Zone) :
    RoomEvent s (zoneEvents before strong weak reached d s z) := by
  unfold zoneEvents
  refine .trans ?_ (.ite (deliverZone_event ..))
  refine .trans ?_ (.ite (groupEvent_roomWork ..).event)
  refine .trans ?_ (.ite (groupEvent_roomWork ..).event)
  exact .ite (groupEvent_roomWork ..).event

theorem irradianceEvent_event (s : State) : RoomEvent s (irradianceEvent s) := by
  have h := RoomEvent.records s s.evidence s.partitions s.irradiance s.overrides s.views
    (s.sun.irradiance s.params s.irradiance s.elapsed) s.freeRunning
  unfold irradianceEvent
  dsimp only
  split
  · exact h
  · exact h.trans (.foldl (fun s z => (recomputeBlind_roomWork z s).event) _ _)

theorem evaluateBookings_event (s : State) : RoomEvent s (evaluateBookings s) :=
  (RoomEvent.records s s.evidence s.partitions s.irradiance s.overrides _ s.sun s.freeRunning).trans
    ((RoomWork.foldl (bookingViewEvent_roomWork _) _ _).trans (recomputeMismatch_roomWork _)).event

/-- R81: wing time set to a time of the week. -/
theorem setClock_event {w : WingTime} (h : w.weekday ≤ 6 ∧ w.minute ≤ 1439 ∧ w.second ≤ 59) (s : State) :
    RoomEvent s { s with clock := some w } :=
  ⟨rfl, rfl, .refl _, fun _ _ _ _ => rfl, fun _ x hx => by cases hx; exact h⟩

/-- R84: a raise of CLOCK_STEPPED. -/
theorem raiseStepped_event (d : BitVec 24) (s : State) : RoomEvent s (raise .clockStepped d s) := by
  have hr : raise .clockStepped d s = { s with notices := (raise .clockStepped d s).notices } := by
    unfold raise; split <;> rfl
  refine ⟨by rw [hr], by rw [hr], by rw [hr]; exact .refl _, fun j _ _ hj => raise_other d s hj.symm, ?_⟩
  rw [hr]; exact id

theorem clockArrival_event {w : WingTime} (h : w.weekday ≤ 6 ∧ w.minute ≤ 1439 ∧ w.second ≤ 59) (s : State) :
    RoomEvent s (clockArrival w s) := by
  have h1 := RoomEvent.records s s.evidence s.partitions s.irradiance s.overrides s.views s.sun false
  have h2 := (h1.trans (setClock_event h _)).trans (evaluateBookings_event _)
  unfold clockArrival
  dsimp only
  split
  · exact h2
  · split
    · exact h1
    · split
      · exact h2
      · exact h2.trans (raiseStepped_event ..)

/-- R81: wing time one second later is a time of the week. -/
theorem WingTime.advance_inRange {w : WingTime} (h : w.weekday ≤ 6 ∧ w.minute ≤ 1439 ∧ w.second ≤ 59) :
    w.advance.weekday ≤ 6 ∧ w.advance.minute ≤ 1439 ∧ w.advance.second ≤ 59 := by
  unfold WingTime.advance
  (repeat' split) <;> dsimp only <;> omega

theorem advanceWing_event (s : State) : RoomEvent s (advanceWing s) := by
  unfold advanceWing
  cases hc : s.clock with
  | none => exact .refl s
  | some w =>
    have h1 : RoomEvent s { s with clock := some w.advance } :=
      ⟨rfl, rfl, .refl _, fun _ _ _ _ => rfl, fun h x hx => by cases hx; exact WingTime.advance_inRange (h w hc)⟩
    dsimp only
    split
    · exact h1.trans (evaluateBookings_event _)
    · exact h1

/-- R45: the time a CLOCK arrival delivers is a time of the week. -/
theorem decodeValue_time {r : Role} {m : Option RangeMap} {b : List Byte} {w : WingTime}
    (h : (decodeValue r m b).delivery = .time w) : w.weekday ≤ 6 ∧ w.minute ≤ 1439 ∧ w.second ≤ 59 := by
  unfold decodeValue at h
  cases r <;> dsimp only at h <;> (repeat' split at h) <;> simp_all
  subst h
  assumption

theorem otherEvents_event {r : Role} {m : Option RangeMap} {b : List Byte} (s : State) :
    RoomEvent s (otherEvents r (decodeValue r m b).delivery s) := by
  unfold otherEvents
  split
  · rename_i h; exact clockArrival_event (decodeValue_time h) s
  · exact irradianceEvent_event s
  · exact .refl s

/-- R48: an arrival is a change of its entry, then an event of the room. -/
theorem pointArrival_event (e : PointEntry) (r : Role) (b : List Byte) (s : State) :
    RoomEvent (updatePoint e.code (fun e => e.arrive r b s.elapsed) s) (pointArrival e r b s) := by
  unfold pointArrival
  exact ((setHeldValue_event ..).trans ((syncWindows_event ..).trans ((recordPresence_event ..).trans
    (refreshPresentations_roomWork _).event))).trans
    ((RoomEvent.foldl (fun _ _ => zoneEvents_event ..) _ _).trans ((partitionEvents_roomWork ..).event.trans
      ((otherEvents_event _).trans (windowChanges_roomWork ..).event)))

theorem evidenceChanged_event (before s : State) : RoomEvent s (evidenceChanged before s) :=
  (syncWindows_event before s).trans (((refreshPresentations_roomWork _).trans (countChanges_roomWork ..)).trans
    (windowChanges_roomWork ..)).event

theorem pointLeft_event (before : State) (e : PointEntry) (s : State) : RoomEvent s (pointLeft before e s) := by
  have hp : ∀ a u, RoomEvent u (keptPartition a u) := fun a u => by
    unfold keptPartition
    split
    · split
      · exact .refl u
      · exact .records u u.evidence _ u.irradiance u.overrides u.views u.sun u.freeRunning
    · exact .refl u
  have hi : ∀ r u, RoomEvent u (keptIrradiance r u) := fun r u => by
    unfold keptIrradiance
    split
    · split
      · exact .refl u
      · exact .records u u.evidence u.partitions _ u.overrides u.views u.sun u.freeRunning
    · exact .refl u
  unfold pointLeft irradianceLost
  have h := ((hp e.attachment s).trans (hi e.role _)).trans ((evidenceChanged_event before _).trans
    (partitionEvents_roomWork before e.attachment _).event)
  dsimp only
  split
  · exact h.trans (irradianceEvent_event _)
  · exact h

end Sys2Proof.Machine
end

section
/-! SUPPORT. What every command keeps: the invariants of the transmit queues, the counts, the order of the outbound table and the
ports of an invalid node; and, but for the loading requests, the address, what the host has loaded and the ACTIVE page. One
lemma per operation; the invariants of every step follow. -/

namespace Sys2Proof.Machine

/-! ### What is kept -/

/-- R1, R2, R10, R11: one transmit queue is as chapter 1 states. -/
abbrev PortSound (p : Port) (q : LinePort) : Prop := QueueBounded p q ∧ QueueOrdered q ∧ EmptyWhenDown q

/-- The invariants that every operation keeps, loading included. -/
structure Sound (s t : State) : Prop where
  queues : QueuesSound s → QueuesSound t
  counts : CountsSound s → CountsSound t
  outputs : OutputsSound s → OutputsSound t
  held : PortsHeldDown s → PortsHeldDown t

/-- An operation keeps the invariants and the address; where `L` holds what the host has loaded, where `P` holds the ACTIVE page. -/
structure Keeps (L P : Prop) (s t : State) : Prop extends Sound s t where
  address : t.address = s.address
  loaded : L → t.loaded = s.loaded
  page : P → t.activePage = s.activePage

variable {L P : Prop}

theorem Sound.refl (s : State) : Sound s s := ⟨id, id, id, id⟩

theorem Sound.trans {s t u : State} (a : Sound s t) (b : Sound t u) : Sound s u :=
  ⟨b.queues ∘ a.queues, b.counts ∘ a.counts, b.outputs ∘ a.outputs, b.held ∘ a.held⟩

theorem Keeps.refl (s : State) : Keeps L P s s := ⟨.refl s, rfl, fun _ => rfl, fun _ => rfl⟩

theorem Keeps.trans {s t u : State} (a : Keeps L P s t) (b : Keeps L P t u) : Keeps L P s u :=
  ⟨a.toSound.trans b.toSound, b.address.trans a.address, fun h => (b.loaded h).trans (a.loaded h),
    fun h => (b.page h).trans (a.page h)⟩

theorem Keeps.foldl {α : Type} {f : State → α → State} (h : ∀ s a, Keeps L P s (f s a)) (l : List α) (s : State) :
    Keeps L P s (l.foldl f s) := foldl_related .refl .trans h l s

theorem Keeps.mono {L' P' : Prop} {s t : State} (h : Keeps L P s t) (hL : L' → L) (hP : P' → P) : Keeps L' P' s t :=
  ⟨h.toSound, h.address, h.loaded ∘ hL, h.page ∘ hP⟩

theorem Keeps.ite {c : Prop} [Decidable c] {s t : State} (h : Keeps L P s t) : Keeps L P s (if c then t else s) := by
  split <;> [exact h; exact .refl s]

/-! ### The primitive changes -/

/-- The parts of the state that the invariants read. -/
def State.guarded (s : State) :=
  (s.room, s.trunk, s.address, s.clock, s.matchUnits, s.captures, s.overflow, s.outputs)

/-- The parts of the state that hold what the host has loaded, and the page in use. -/
def State.stored (s : State) :=
  (s.points, s.zones, s.pageA, s.pageB, s.scenes, s.profiles, s.params, s.activePage)

/-- A change of other parts keeps the invariants. -/
theorem Sound.of_guarded {s t : State} (h : t.guarded = s.guarded) : Sound s t := by
  simp only [State.guarded, Prod.mk.injEq] at h
  obtain ⟨hr, ht, ha, hc, hm, hp, ho, hout⟩ := h
  constructor <;> intro h
  · simpa only [QueuesSound, hr, ht] using h
  · simpa only [CountsSound, hr, ht, hm, hp, ho, hc] using h
  · simpa only [OutputsSound, hout] using h
  · simpa only [PortsHeldDown, hr, ht, ha] using h

/-- A change of what is neither guarded nor stored keeps everything. -/
theorem Keeps.of_kept {s t : State} (hg : t.guarded = s.guarded) (hs : t.stored = s.stored) : Keeps L P s t := by
  refine ⟨.of_guarded hg, ?_, fun _ => ?_, fun _ => ?_⟩ <;>
    simp_all [State.guarded, State.stored, State.loaded]

/-- The same behind such a change. -/
theorem Keeps.behind {s t u : State} (h : Keeps L P t u) (hg : t.guarded = s.guarded) (hs : t.stored = s.stored) :
    Keeps L P s u := .trans (.of_kept hg hs) h

/-- What a loading request writes is neither guarded nor the page in use. -/
theorem Keeps.loading {s t u : State} (h : Keeps L P t u) (hL : ¬L) (hg : t.guarded = s.guarded)
    (hp : t.activePage = s.activePage) : Keeps L P s u :=
  .trans ⟨.of_guarded hg, by simp_all [State.guarded], fun h => absurd h hL, fun _ => hp⟩ h

/-- R1, R10, R19: a change of one port. -/
theorem Keeps.withPort {p : Port} {q : LinePort} {s : State} (hq : PortSound p (s.port p) → PortSound p q)
    (hc : (s.port p).checkErrors ≤ 65535 → q.checkErrors ≤ 65535)
    (hd : (s.port p).relayDropped ≤ 65535 → q.relayDropped ≤ 65535)
    (hu : q.up = true → (s.port p).up = true ∨ nodeValid s.address.node = true) : Keeps L P s (s.withPort p q) := by
  have hn : s.address.node = 0 ∨ s.address.node = 255 → nodeValid s.address.node = false := by
    rintro (h | h) <;> simp [nodeValid, h]
  refine ⟨⟨fun h => ?_, fun h => ?_, fun h => by cases p <;> exact h, fun h hv => ?_⟩, by simp,
    fun _ => by simp [State.loaded], fun _ => by simp⟩
  · cases p <;> exact ⟨by first | exact hq h.1 | exact h.1, by first | exact hq h.2 | exact h.2⟩
  · obtain ⟨h1, h2, h3, h4, h5⟩ := h
    cases p
    · exact ⟨hc h1, hd h2, h3, h4, h5⟩
    · exact ⟨h1, h2, hc h3, hd h4, h5⟩
  · rw [State.withPort_address] at hv
    have hdown := h hv
    cases p <;> simp_all

/-- R157: an index order is an order of static parts. -/
theorem outputsSound_of_map_restart {l l' : List OutEntry} (h : l'.map OutEntry.restart = l.map OutEntry.restart)
    (hl : l.Pairwise fun a b => a.index.val < b.index.val) : l'.Pairwise fun a b => a.index.val < b.index.val := by
  have hr : ∀ m : List OutEntry, (m.map OutEntry.restart).Pairwise (fun a b => a.index.val < b.index.val) ↔
      m.Pairwise fun a b => a.index.val < b.index.val := fun m => List.pairwise_map
  rw [← hr] at hl ⊢
  rwa [h]

/-- R160: a change of the runtime of entries. -/
theorem Keeps.runtimes {s : State} {o : List OutEntry} (h : o.map OutEntry.restart = s.outputs.map OutEntry.restart) :
    Keeps L P s { s with outputs := o } :=
  ⟨⟨id, id, outputsSound_of_map_restart h, id⟩, rfl, fun _ => by simp [State.loaded, h], fun _ => rfl⟩

/-- R48: a change of the runtime of points. -/
theorem Keeps.points {s : State} {l : List PointEntry} (h : l.map PointEntry.fresh = s.points.map PointEntry.fresh) :
    Keeps L P s { s with points := l } :=
  ⟨⟨id, id, id, id⟩, rfl, fun _ => by simp [State.loaded, h], fun _ => rfl⟩

/-- R185, R186: a change of the match units, the capture queue and its overflow within their ranges. -/
theorem Keeps.units {s : State} {m : Vector MatchUnit 5} {c : List CaptureRecord} {o : Nat}
    (hm : (∀ u : Fin 5, s.matchUnits[u].hits ≤ 65535) → ∀ u : Fin 5, m[u].hits ≤ 65535)
    (hc : s.captures.length ≤ 32 → c.length ≤ 32) (ho : s.overflow ≤ 255 → o ≤ 255) :
    Keeps L P s { s with matchUnits := m, captures := c, overflow := o } :=
  ⟨⟨id, fun ⟨h1, h2, h3, h4, h5, h6, h7, h8⟩ => ⟨h1, h2, h3, h4, hm h5, ho h6, hc h7, h8⟩, id, id⟩, rfl, fun _ => rfl,
    fun _ => rfl⟩

/-! ### Queues (R10, R11) -/

/-- R11: frames that keep their envelopes keep the order and the bounds of a queue. -/
theorem PortSound.of_envelope {p : Port} {q : LinePort} {l : List Queued}
    (h : l.map Queued.envelope = q.queue.map Queued.envelope) (hq : PortSound p q) :
    PortSound p { q with queue := l } := by
  obtain ⟨⟨hlen, hshare⟩, ⟨hord, hnext, hsend⟩, hempty⟩ := hq
  have hcount : ∀ (f : Queued → Bool), (∀ e, f e.envelope = f e) → (l.filter f).length = (q.queue.filter f).length := by
    intro f hf
    have := congrArg (fun m : List Queued => (m.filter f).length) h
    simpa [List.filter_map, Function.comp_def, hf] using this
  refine ⟨⟨?_, ?_⟩, ⟨?_, ?_, ?_⟩, fun hu => ?_⟩
  · have hl : l.length = q.queue.length := by simpa using congrArg List.length h
    exact hl ▸ hlen
  · simpa only [relayedCount, hcount (·.relayed) fun _ => rfl] using hshare
  · have hm : ∀ m : List Queued, (m.map Queued.envelope).Pairwise (fun a b => a.order < b.order) ↔
        m.Pairwise fun a b => a.order < b.order := fun m => List.pairwise_map
    rw [← hm] at hord ⊢
    rwa [h]
  · intro e he
    have : e.envelope ∈ q.queue.map Queued.envelope := h ▸ List.mem_map_of_mem he
    obtain ⟨x, hx, hxe⟩ := List.mem_map.mp this
    have ho : x.envelope.order = e.envelope.order := congrArg Queued.order hxe
    exact ho ▸ hnext x hx
  · simpa only [hcount (·.sending) fun _ => rfl] using hsend
  · simpa [hempty hu] using h

/-- R10: frames taken from a queue. -/
theorem PortSound.filter {p : Port} {q : LinePort} (h : PortSound p q) (f : Queued → Bool) :
    PortSound p { q with queue := q.queue.filter f } := by
  obtain ⟨⟨hlen, hshare⟩, hord, hempty⟩ := h
  exact ⟨⟨(List.length_filter_le f _).trans hlen, (relayedCount_filter_le f _).trans hshare⟩, hord.filter f,
    fun hu => by simp [hempty hu]⟩

/-- R2: an empty queue, whatever the port's state. -/
theorem PortSound.empty (p : Port) (q : LinePort) (h : q.queue = []) : PortSound p q := by
  refine ⟨⟨?_, ?_⟩, ⟨?_, ?_, ?_⟩, fun _ => h⟩ <;> simp [h]

/-- R11: frames of one order of admission in a queue in order are at most one. -/
theorem length_filter_order_le {l : List Queued} (h : l.Pairwise fun a b => a.order < b.order) (n : Nat) :
    (l.filter fun e => e.order = n).length ≤ 1 := by
  match hf : l.filter fun e => e.order = n with
  | [] => simp [hf]
  | [_] => simp [hf]
  | a :: b :: m =>
    have hmem : ∀ x ∈ a :: b :: m, x.order = n := fun x hx => by
      rw [← hf] at hx
      simpa using (List.mem_filter.mp hx).2
    have hab : a.order < b.order := (List.pairwise_cons.mp (hf ▸ h.filter _)).1 b (by simp)
    rw [hmem a (by simp), hmem b (by simp)] at hab
    exact absurd hab (Nat.lt_irrefl n)

/-- R11: frames after one order of admission entered or left SENDING. -/
def markSending (order : Nat) (sending : Bool) (l : List Queued) : List Queued :=
  l.map fun e => if e.order = order then { e with sending := sending } else e

theorem setSending_eq (p : Port) (order : Nat) (sending : Bool) (s : State) :
    setSending p order sending s =
      s.withPort p { s.port p with queue := markSending order sending (s.port p).queue } := rfl

theorem length_filter_markSending_false_le (order : Nat) (l : List Queued) :
    ((markSending order false l).filter (·.sending)).length ≤ (l.filter (·.sending)).length := by
  unfold markSending
  rw [← List.countP_eq_length_filter, ← List.countP_eq_length_filter, List.countP_map]
  refine List.countP_mono_left fun e _ h => ?_
  simp only [Function.comp_apply] at h
  split at h <;> simp_all

/-- A queue after a frame entered or left SENDING, where at most one is SENDING then. -/
theorem PortSound.markSending {p : Port} {q : LinePort} (h : PortSound p q) (order : Nat) (sending : Bool)
    (hs : ((Machine.markSending order sending q.queue).filter (·.sending)).length ≤ 1) :
    PortSound p { q with queue := Machine.markSending order sending q.queue } := by
  obtain ⟨⟨hlen, hshare⟩, ⟨hord, hnext, -⟩, hempty⟩ := h
  have hf : ∀ e : Queued, (if e.order = order then { e with sending := sending } else e).order = e.order :=
    fun e => by split <;> rfl
  have hr : ∀ e : Queued, (if e.order = order then { e with sending := sending } else e).relayed = e.relayed :=
    fun e => by split <;> rfl
  refine ⟨⟨by simpa [Machine.markSending] using hlen, ?_⟩, ⟨?_, ?_, hs⟩, fun hu => by simp [Machine.markSending, hempty hu]⟩
  · simpa [relayedCount, Machine.markSending, List.filter_map, Function.comp_def, hr] using hshare
  · simpa [Machine.markSending, List.pairwise_map, hf] using hord
  · simpa [Machine.markSending, List.forall_mem_map, hf] using hnext

theorem offer_keeps {p : Port} {f : Frame} {o : Owner} {r : Bool} {s t : State} (h : offer p f o r s = some t) :
    Keeps L P s t := by
  unfold offer at h
  split at h
  · rename_i ha
    cases h
    simp only [admits, Bool.and_eq_true] at ha
    refine .withPort (fun ⟨hb, ho, _⟩ => ?_) id id .inl
    exact ⟨hb.enqueue ha.2 f o, ho.enqueue f o r, fun hu => by simp [ha.1] at hu⟩
  · cases h

theorem offer_getD_keeps (p : Port) (f : Frame) (o : Owner) (r : Bool) {s t : State} (h : Keeps L P s t) :
    Keeps L P s ((offer p f o r s).getD t) := by
  cases ho : offer p f o r s with
  | none => exact h
  | some u => exact offer_keeps ho

/-! ### Pins, notices, counts and entries -/

theorem clearPins_keeps (s : State) : Keeps L P s (clearPins s) := .of_kept rfl rfl

theorem answer_keeps (p : Port) (a : Option Answer) (s : State) : Keeps L P s (answer p a s) := by
  cases p <;> exact .of_kept rfl rfl

theorem raise_keeps (k : NoticeKind) (d : BitVec 24) (s : State) : Keeps L P s (raise k d s) := by
  unfold raise
  split <;> exact .of_kept rfl rfl

theorem raiseOneOf_keeps (k : NoticeKind) (ds : List (BitVec 24)) (s : State) : Keeps L P s (raiseOneOf k ds s) := by
  unfold raiseOneOf
  split
  · exact .refl s
  · exact raise_keeps ..
  · exact (raise_keeps ..).behind rfl rfl

theorem countMalformed_keeps (p : Port) (s : State) : Keeps L P s (countMalformed p s) :=
  .withPort id bump_le id .inl

theorem countDropped_keeps (p : Port) (s : State) : Keeps L P s (countDropped p s) :=
  .withPort id id bump_le .inl

theorem cutReception_keeps (p : Port) (s : State) : Keeps L P s (cutReception p s) :=
  .withPort id id id .inl

theorem updateOutput_keeps (i : OutIndex) {f : OutEntry → OutEntry} (hf : ∀ e, (f e).restart = e.restart) (s : State) :
    Keeps L P s (updateOutput i f s) := by
  refine .runtimes ?_
  rw [List.map_map]
  refine List.map_congr_left fun e _ => ?_
  simp only [Function.comp_apply]
  split <;> simp [hf]

theorem updatePoint_keeps (c : PointCode) {f : PointEntry → PointEntry} (hf : ∀ e, (f e).fresh = e.fresh) (s : State) :
    Keeps L P s (updatePoint c f s) := by
  refine .points ?_
  rw [List.map_map]
  refine List.map_congr_left fun e _ => ?_
  simp only [Function.comp_apply]
  split <;> simp [hf]

/-- An event of the room keeps everything. -/
theorem RoomEvent.keeps {s t : State} (h : RoomEvent s t) : Keeps L P s t := by
  have hr : t.outputs.map OutEntry.restart = s.outputs.map OutEntry.restart := h.outputs.map_restart
  refine ⟨⟨fun hq => ?_, fun hc => ?_, outputsSound_of_map_restart hr, fun hp => ?_⟩, by rw [h.frame], fun _ => ?_,
    fun _ => by rw [h.frame]⟩
  · rw [h.frame]
    exact ⟨PortSound.of_envelope h.queue hq.1, hq.2⟩
  · have hw := h.clock hc.2.2.2.2.2.2.2
    rw [h.frame]
    exact ⟨hc.1, hc.2.1, hc.2.2.1, hc.2.2.2.1, hc.2.2.2.2.1, hc.2.2.2.2.2.1, hc.2.2.2.2.2.2.1, hw⟩
  · rw [h.frame]; exact hp
  · rw [h.frame]
    simp [State.loaded, hr]

theorem RoomWork.keeps {s t : State} (h : RoomWork s t) : Keeps L P s t := h.event.keeps

/-! ### The offers -/

theorem offerDeferred_keeps (p : Port) (s : State) : Keeps L P s (offerDeferred p s) := by
  unfold offerDeferred
  repeat' split
  case h_1 h => exact (offer_keeps h).trans (.of_kept rfl rfl)
  all_goals exact .refl s

theorem offerNotice_keeps (s : State) (k : NoticeKind) : Keeps L P s (offerNotice s k) := by
  unfold offerNotice
  repeat' split
  case h_1 h => exact (offer_keeps h).trans (.of_kept rfl rfl)
  all_goals exact .refl s

theorem offerReport_keeps (s : State) (l : Zone) : Keeps L P s (offerReport s l) := by
  unfold offerReport
  repeat' split
  case h_1 h => exact (offer_keeps h).trans (.of_kept rfl rfl)
  all_goals exact .refl s

theorem offerDrive_keeps (s : State) : Keeps L P s (offerDrive s) := by
  unfold offerDrive
  repeat' split
  case h_1 h => exact (offer_keeps h).trans (.of_kept rfl rfl)
  all_goals exact .refl s

theorem admitOutput_keeps (s : State) (i : OutIndex) : Keeps L P s (admitOutput s i) := by
  unfold admitOutput
  repeat' split
  case h_1 h =>
    have hu := (offer_keeps (L := L) (P := P) h).trans (updateOutput_keeps i (f := OutEntry.admitted s.free) (fun _ => rfl) _)
    exact hu.trans (.of_kept rfl rfl)
  all_goals exact .refl s

theorem arbiter_keeps (s : State) : Keeps L P s (arbiter s) := .foldl admitOutput_keeps _ s

theorem offerNotices_keeps (s : State) : Keeps L P s (offerNotices s) := .foldl offerNotice_keeps _ s

theorem settleTrunk_keeps (s : State) : Keeps L P s (settleTrunk s) :=
  ((offerDeferred_keeps .trunk s).trans (offerNotices_keeps _)).trans (.foldl offerReport_keeps _ _)

theorem offerOthers_keeps (s : State) : Keeps L P s (offerOthers s) :=
  (offerDeferred_keeps .room s).trans (offerDrive_keeps _)

theorem settleRoom_keeps (s : State) : Keeps L P s (settleRoom s) := by
  have hf : Keeps L P s { s with free := s.free + 1 } := .of_kept rfl rfl
  unfold settleRoom
  split
  · split
    · exact (hf.trans (arbiter_keeps _)).trans (offerOthers_keeps _)
    · exact (hf.trans (offerOthers_keeps _)).trans (arbiter_keeps _)
  · exact (offerOthers_keeps s).trans (arbiter_keeps _)

theorem settle_keeps (s : State) : Keeps L P s (settle s) := (settleTrunk_keeps s).trans (settleRoom_keeps _)

/-! ### Withdrawals, outcomes and resets (chapter 1) -/

theorem OutEntry.restart_outcome (e : OutEntry) (t : Nat) (o : TxOutcome) : (e.outcome t o).restart = e.restart := by
  cases o
  case done => rfl
  case ack => simp only [outcome, acked]; (repeat' split) <;> rfl
  case nak => rfl
  case busy => simp only [outcome, busied]; split <;> rfl
  case unheard => simp only [outcome, unheard]; split <;> rfl

theorem OutEntry.restart_driven (e : OutEntry) (b : List Byte) (t : Nat) (o : TxOutcome) :
    (e.driven b t o).restart = e.restart := by
  cases o
  case ack => simp only [driven, driveAcked]; (repeat' split) <;> rfl
  all_goals rfl

theorem endDrive_keeps (o : TxOutcome) (s : State) : Keeps L P s (endDrive o s) := by
  unfold endDrive
  split
  · exact .refl s
  · rename_i d _
    dsimp only
    split
    · rename_i x _
      have h := updateOutput_keeps (L := L) (P := P) x.index (fun e => e.restart_driven d.frame.value s.elapsed o) s
      exact h.trans (.of_kept rfl rfl)
    · split <;> exact .of_kept rfl rfl

theorem remarkNotice_keeps (k : NoticeKind) (s : State) : Keeps L P s (remarkNotice k s) := .ite (.of_kept rfl rfl)

theorem remarkReport_keeps (l : Zone) (s : State) : Keeps L P s (remarkReport l s) := by
  unfold remarkReport
  split <;> exact .of_kept rfl rfl

theorem outputWithdrawn_keeps (i : OutIndex) (s : State) : Keeps L P s (outputWithdrawn i s) :=
  updateOutput_keeps i (f := OutEntry.pend) (fun _ => rfl) s

theorem withdraw_keeps (s : State) (q : Queued) : Keeps L P s (withdraw s q) := by
  obtain ⟨f, o, r, n, b⟩ := q
  cases o with
  | relay | delivery | reply => exact .refl s
  | output i => exact outputWithdrawn_keeps i s
  | drive => exact endDrive_keeps .unheard s
  | notice k => exact remarkNotice_keeps k s
  | report l => exact remarkReport_keeps l s

theorem withdrawAll_keeps (q : List Queued) (s : State) : Keeps L P s (withdrawAll q s) :=
  (Keeps.foldl withdraw_keeps q s).trans (raiseOneOf_keeps ..)

theorem endWaitingDrive_keeps (p : Port) (s : State) : Keeps L P s (endWaitingDrive p s) := by
  cases p
  · exact endDrive_keeps .unheard s
  · exact .refl s

theorem powerLoss_keeps (p : Port) (s : State) : Keeps L P s (powerLoss p s) := by
  unfold powerLoss
  refine .ite (.trans ?_ (endWaitingDrive_keeps ..))
  refine .trans ?_ (withdrawAll_keeps ..)
  refine .trans ?_ (cutReception_keeps ..)
  exact .withPort (fun _ => .empty p _ rfl) id id nofun

theorem powerUp_keeps (p : Port) (s : State) : Keeps L P s (powerUp p s) := by
  unfold powerUp
  split
  · rename_i h
    simp only [Bool.and_eq_true, Bool.not_eq_true'] at h
    obtain ⟨hdown, hvalid⟩ := h
    refine .trans ?_ (cutReception_keeps ..)
    exact .withPort (fun hq => .empty p _ (hq.2.2 hdown)) id id fun _ => .inr hvalid
  · exact .refl s

theorem startHead_keeps (p : Port) (s : State) : Keeps L P s (startHead p s) := by
  unfold startHead
  split
  · rename_i h
    simp only [Bool.and_eq_true, sendingOf, Option.isNone_iff_eq_none, List.find?_eq_none] at h
    split
    · rename_i x _
      refine .withPort (fun hq => hq.markSending x.order true ?_) id id .inl
      refine le_trans ?_ (length_filter_order_le hq.2.1.1 x.order)
      unfold markSending
      rw [← List.countP_eq_length_filter, ← List.countP_eq_length_filter, List.countP_map]
      refine List.countP_mono_left fun e he hs => ?_
      simp only [Function.comp_apply] at hs
      split at hs
      · simpa
      · exact absurd hs (h.2 e he)
    · exact .refl s
  · exact .refl s

theorem setWaiting_keeps (p : Port) (order : Nat) (s : State) : Keeps L P s (setSending p order false s) :=
  .withPort (fun hq => hq.markSending order false ((length_filter_markSending_false_le order _).trans hq.2.1.2.2)) id id .inl

theorem deliveryOutcome_keeps (p : Port) (f : Frame) (c : PointCode) (n : Nat) (o : TxOutcome) (s : State) :
    Keeps L P s (deliveryOutcome p f c n o s) := by
  have hu : Keeps L P s (undelivered c s) := raise_keeps ..
  have hb : Keeps L P s (if n < 3 then
      match offer p f (.delivery c (n + 1)) true s with
      | some s' => s'
      | none => undelivered c s
    else undelivered c s) := by
    split
    · cases ho : offer p f (.delivery c (n + 1)) true s with
      | none => exact hu
      | some u => exact offer_keeps ho
    · exact hu
  cases o with
  | ack | done => exact .refl s
  | nak => exact hu
  | busy | unheard => exact hb

theorem outputOutcome_keeps (i : OutIndex) (o : TxOutcome) (s : State) : Keeps L P s (outputOutcome i o s) := by
  have hu := updateOutput_keeps (L := L) (P := P) i (fun e => e.restart_outcome s.elapsed o) s
  unfold outputOutcome
  split
  · exact .refl s
  · dsimp only
    split
    · exact hu.trans (raise_keeps ..)
    · exact hu

theorem ownerOutcome_keeps (p : Port) (q : Queued) (o : TxOutcome) (s : State) : Keeps L P s (ownerOutcome p q o s) := by
  obtain ⟨f, w, r, n, b⟩ := q
  cases w with
  | relay | reply | notice | report => exact .refl s
  | delivery c m => exact deliveryOutcome_keeps ..
  | output i => exact outputOutcome_keeps ..
  | drive => exact endDrive_keeps ..

theorem removeFrame_keeps (p : Port) (order : Nat) (s : State) : Keeps L P s (removeFrame p order s) :=
  .withPort (fun hq => hq.filter _) id id .inl

/-! ### Match units (R185, R186) -/

theorem enterHold_keeps (n : Nat) (s : State) : Keeps L P s (enterHold n s) := by
  unfold enterHold
  split
  · exact .refl s
  · exact (raise_keeps ..).behind rfl rfl

theorem addCapture_keeps (d : Bool) (p : Port) (f : Frame) (n : Nat) (s : State) :
    Keeps L P s (addCapture d p f n s) := by
  unfold addCapture
  split
  · rename_i h
    exact .units id (fun _ => by simpa using Nat.succ_le_of_lt h) id
  · refine .trans (.units id id fun h => ?_) (raise_keeps ..)
    unfold Config.overflowTop
    split <;> omega

/-- R19, R185: one unit written with its hit count in range. -/
theorem hits_set_le {m : Vector MatchUnit 5} {x : MatchUnit} (v : Fin 5)
    (hx : (∀ u : Fin 5, m[u].hits ≤ 65535) → x.hits ≤ 65535) (h : ∀ u : Fin 5, m[u].hits ≤ 65535) (u : Fin 5) :
    (m.set v x)[u].hits ≤ 65535 := by
  by_cases huv : v = u
  · subst huv; simpa using hx h
  · have : v.val ≠ u.val := fun e => huv (Fin.ext e)
    simpa [this] using h u

theorem showUnit_keeps (d : Bool) (p : Port) (f : Frame) (s : State) (u : Fin 5) : Keeps L P s (showUnit d p f s u) := by
  unfold showUnit
  refine .ite ?_
  have hm : Keeps L P s { s with matchUnits := s.matchUnits.set u { s.matchUnits[u] with hits := bump s.matchUnits[u].hits } } :=
    .units (hits_set_le u fun h => bump_le (h u)) id id
  dsimp only
  split
  · exact (hm.trans (addCapture_keeps ..)).trans (enterHold_keeps ..)
  · exact hm.trans (addCapture_keeps ..)

theorem showFrame_keeps (d : Bool) (p : Port) (f : Frame) (s : State) : Keeps L P s (showFrame d p f s) :=
  .foldl (showUnit_keeps d p f) _ s

theorem outcomeFixed_keeps (p : Port) (heard : Option (Byte × Byte)) (s : State) : Keeps L P s (outcomeFixed p heard s) := by
  unfold outcomeFixed
  split
  · exact ((removeFrame_keeps ..).trans (ownerOutcome_keeps ..)).trans (showFrame_keeps ..)
  · exact .refl s

/-! ### Points and the resets (R26, R49, R51) -/

theorem PointEntry.fresh_arrive (e : PointEntry) (r : Role) (b : List Byte) (t : Nat) : (e.arrive r b t).fresh = e.fresh := by
  unfold arrive
  dsimp only
  split <;> rfl

theorem PointEntry.fresh_startDeadline (e : PointEntry) (t : Nat) : (e.startDeadline t).fresh = e.fresh := by
  unfold startDeadline
  split <;> rfl

theorem PointEntry.fresh_resetDeadline (e : PointEntry) (hold : Bool) (t : Nat) :
    (e.resetDeadline hold t).fresh = e.fresh := by
  unfold resetDeadline
  split
  · rfl
  · exact e.fresh_startDeadline t

theorem PointEntry.fresh_roomReset (e : PointEntry) (hold : Bool) (t : Nat) : (e.roomReset hold t).fresh = e.fresh := by
  unfold roomReset
  split
  · exact PointEntry.fresh_resetDeadline _ hold t
  · rfl

theorem PointEntry.fresh_softReset (e : PointEntry) (hold : Bool) (t : Nat) : (e.softReset hold t).fresh = e.fresh :=
  PointEntry.fresh_resetDeadline _ hold t

/-- Points under a change of their runtime. -/
theorem map_fresh_map {f : PointEntry → PointEntry} (hf : ∀ e, (f e).fresh = e.fresh) (l : List PointEntry) :
    (l.map f).map PointEntry.fresh = l.map PointEntry.fresh := by simp [hf]

/-- Entries under a change of their runtime. -/
theorem map_restart_map {f : OutEntry → OutEntry} (hf : ∀ e, (f e).restart = e.restart) (l : List OutEntry) :
    (l.map f).map OutEntry.restart = l.map OutEntry.restart := by simp [hf]

theorem pointArrival_keeps (e : PointEntry) (r : Role) (b : List Byte) (s : State) : Keeps L P s (pointArrival e r b s) :=
  (updatePoint_keeps _ (fun e => e.fresh_arrive ..) s).trans (pointArrival_event e r b s).keeps

theorem enterRun_keeps (s : State) : Keeps L P s (enterRun s) := by
  unfold enterRun
  refine .ite (Keeps.behind (t := { s with hold := false }) ?_ rfl rfl)
  exact .points (map_fresh_map (fun e => e.fresh_startDeadline s.elapsed) _)

theorem roomResetState_keeps (s : State) : Keeps L P s (roomResetState s) :=
  .trans (.runtimes (map_restart_map (f := OutEntry.roomReset) (fun _ => rfl) _))
    (.trans (.points (map_fresh_map (fun e => e.fresh_roomReset s.hold s.elapsed) _)) (.of_kept rfl rfl))

theorem roomResetEvent_keeps (s : State) : Keeps L P s (roomResetEvent s) := by
  unfold roomResetEvent roomResetDriven
  refine .ite (.trans (.trans ?_ (roomResetState_keeps _)) ((refreshPresentations_roomWork _).trans
    ((countChanges_roomWork ..).trans (windowChanges_roomWork ..))).keeps)
  refine .trans ?_ (endWaitingDrive_keeps ..)
  refine .trans ?_ (withdrawAll_keeps ..)
  refine .trans ?_ (cutReception_keeps ..)
  exact .withPort (fun _ => .empty .room _ rfl) id id .inl

theorem softResetState_keeps (cause : BitVec 8) (s : State) : Keeps L P s (softResetState cause s) := by
  have hp : ∀ p (u : State), Keeps L P u (u.withPort p (u.port p).softReset) := fun p u =>
    .withPort (fun _ => .empty p _ rfl) (fun _ => Nat.zero_le _) (fun _ => Nat.zero_le _) .inl
  have hm : ∀ u : Fin 5, (softResetState cause s).matchUnits[u].hits ≤ 65535 := by
    intro u
    match u with
    | 0 | 1 | 2 | 3 | 4 => exact Nat.zero_le _
  exact (hp .room s).trans ((hp .trunk _).trans (.trans (.units (fun _ => hm) (fun _ => Nat.zero_le _) (fun _ => Nat.zero_le _))
    (.trans (.points (map_fresh_map (fun e => e.fresh_softReset s.hold s.elapsed) _))
      (.trans (.runtimes (map_restart_map (f := OutEntry.restart) (fun _ => rfl) _)) (.of_kept rfl rfl)))))

theorem softResetEvent_keeps (cause : BitVec 8) (s : State) : Keeps L P s (softResetEvent cause s) :=
  (softResetState_keeps cause s).trans (rebuild_roomWork _).keeps

/-! ### Requests (chapters 10 and 11) -/

theorem tested_keeps {r : Option Result} {perform : State → Performed} {s : State} (h : Keeps L P s (perform s).1) :
    Keeps L P s (tested r perform s).1 := by
  cases r
  · exact h
  · exact .refl s

/-- A request that is performed where no test fails. -/
theorem tested_done_keeps {r : Option Result} {data : State → List Byte} {f : State → State} {s : State}
    (h : Keeps L P s (f s)) : Keeps L P s (tested r (fun s => done (data s) (f s)) s).1 := tested_keeps h

theorem loadPoint_keeps (hL : ¬L) (a : List Byte) (s : State) : Keeps L P s (performLoadPoint a s).1 := by
  refine tested_done_keeps ?_
  unfold loadPointEntry
  split
  · exact (pointLeft_event ..).keeps.loading hL rfl rfl
  · exact Keeps.loading (.refl _) hL rfl rfl

theorem deletePoint_keeps (hL : ¬L) (a : List Byte) (s : State) : Keeps L P s (performDeletePoint a s).1 := by
  refine tested_keeps ?_
  split
  · exact (pointLeft_event ..).keeps.loading hL rfl rfl
  · exact .refl s

theorem loadZone_keeps (hL : ¬L) (a : List Byte) (s : State) : Keeps L P s (performLoadZone a s).1 :=
  tested_done_keeps ((rebuild_roomWork _).keeps.loading hL rfl rfl)

theorem loadOutput_keeps (hL : ¬L) (a : List Byte) (s : State) : Keeps L P s (performLoadOutput a s).1 :=
  tested_done_keeps ⟨⟨id, id, insertOutput_ordered _, id⟩, rfl, fun h => absurd h hL, fun _ => rfl⟩

theorem deleteOutput_keeps (hL : ¬L) (a : List Byte) (s : State) : Keeps L P s (performDeleteOutput a s).1 := by
  refine tested_keeps ?_
  split
  · split
    · exact .refl s
    · exact ⟨⟨id, id, List.Pairwise.filter _, id⟩, rfl, fun h => absurd h hL, fun _ => rfl⟩
  · exact .refl s

theorem withStandby_keeps (hL : ¬L) (page : List Booking) (s : State) : Keeps L P s (s.withStandby page) := by
  unfold State.withStandby
  split <;> exact Keeps.loading (.refl _) hL rfl rfl

theorem swapPages_keeps (hP : ¬P) (a : List Byte) (s : State) : Keeps L P s (performSwapPages a s).1 := by
  refine tested_done_keeps ?_
  unfold swapAndEvaluate
  refine .trans ?_ (evaluateBookings_event _).keeps
  exact ⟨.of_guarded rfl, rfl, fun _ => rfl, fun h => absurd h hP⟩

theorem loadScene_keeps (hL : ¬L) (a : List Byte) (s : State) : Keeps L P s (performLoadScene a s).1 := by
  refine tested_done_keeps ?_
  unfold loadSceneContent
  refine Keeps.loading (RoomWork.foldl (fun u z => ?_) _ _).keeps hL rfl rfl
  exact .ite (sceneChange_roomWork ..)

theorem loadProfile_keeps (hL : ¬L) (a : List Byte) (s : State) : Keeps L P s (performLoadProfile a s).1 := by
  refine tested_done_keeps ?_
  unfold loadProfileSlots
  exact (RoomWork.foldl selectAfresh_roomWork _ _).keeps.loading hL rfl rfl

theorem setParameter_keeps (hL : ¬L) (a : List Byte) (s : State) : Keeps L P s (performSetParameter a s).1 :=
  tested_done_keeps (Keeps.loading (.refl _) hL rfl rfl)

theorem setMatch_keeps (a : List Byte) (s : State) : Keeps L P s (performSetMatch a s).1 :=
  tested_done_keeps (.units (hits_set_le _ fun _ => Nat.zero_le _) id id)

theorem readCapture_keeps (a : List Byte) (s : State) : Keeps L P s (performReadCapture a s).1 := by
  refine tested_done_keeps (.units id (fun h => ?_) fun _ => Nat.zero_le _)
  simp only [List.length_drop]
  omega

theorem clearNotices_keeps (a : List Byte) (s : State) : Keeps L P s (performClearNotices a s).1 := by
  have h : ∀ mask (u : State) k, Keeps L P u (clearNotice mask u k) := fun _ _ _ => .ite (.of_kept rfl rfl)
  exact tested_done_keeps (.foldl (h _) _ _)

theorem drivePoint_keeps (rq : Requester) (a : List Byte) (s : State) : Keeps L P s (performDrivePoint rq a s).1 := by
  refine tested_keeps ?_
  unfold startDrive
  dsimp only
  split
  · exact .of_kept rfl rfl
  · exact (endDrive_keeps ..).behind rfl rfl

theorem softReset_keeps (a : List Byte) (s : State) : Keeps L P s (performSoftReset a s).1 := by
  have h : Keeps L P s (softResetEvent 1 s) := softResetEvent_keeps 1 s
  refine tested_keeps ?_
  dsimp only
  exact h

/-- READ_POINT, READ_OUTPUT, READ_BOOKING and READ_PARAMETER write nothing. -/
theorem reads_keep (a : List Byte) (s : State) :
    Keeps L P s (performReadPoint a s).1 ∧ Keeps L P s (performReadOutput a s).1 ∧
      Keeps L P s (performReadBooking a s).1 ∧ Keeps L P s (performReadParameter a s).1 := by
  refine ⟨tested_keeps ?_, tested_keeps ?_, tested_keeps ?_, tested_keeps ?_⟩ <;> split <;> exact .refl s

/-- R172: what the performance of each request code keeps. -/
theorem performCode_keeps (rq : Requester) (code : Byte) (a : List Byte) (s : State) :
    Keeps (code.toNat ∉ loadingCodes) (code.toNat ≠ 13) s (performCode rq code a s).1 := by
  have loads : ∀ n ∈ loadingCodes, code.toNat = n → ¬code.toNat ∉ loadingCodes := fun n hn h => by simpa [h] using hn
  unfold performCode
  split
  case h_1 => exact tested_keeps (.refl s)
  case h_2 => exact tested_done_keeps (.refl s)
  case h_3 h => exact loadPoint_keeps (loads 3 (by decide) h) a s
  case h_4 h => exact deletePoint_keeps (loads 4 (by decide) h) a s
  case h_5 => exact (reads_keep a s).1
  case h_6 h => exact loadZone_keeps (loads 6 (by decide) h) a s
  case h_7 => exact tested_done_keeps (.refl s)
  case h_8 h => exact loadOutput_keeps (loads 8 (by decide) h) a s
  case h_9 h => exact deleteOutput_keeps (loads 9 (by decide) h) a s
  case h_10 => exact (reads_keep a s).2.1
  case h_11 h => exact tested_done_keeps (withStandby_keeps (loads 11 (by decide) h) _ s)
  case h_12 h => exact tested_done_keeps (withStandby_keeps (loads 12 (by decide) h) _ s)
  case h_13 h => exact swapPages_keeps (not_not_intro h) a s
  case h_14 => exact (reads_keep a s).2.2.1
  case h_15 h => exact loadScene_keeps (loads 15 (by decide) h) a s
  case h_16 h => exact loadProfile_keeps (loads 16 (by decide) h) a s
  case h_17 h => exact setParameter_keeps (loads 17 (by decide) h) a s
  case h_18 => exact (reads_keep a s).2.2.2
  case h_19 => exact tested_done_keeps (overrideEvent_event ..).keeps
  case h_20 => exact tested_done_keeps (.refl s)
  case h_21 => exact clearNotices_keeps a s
  case h_22 => exact setMatch_keeps a s
  case h_23 => exact readCapture_keeps a s
  case h_24 => exact tested_done_keeps (enterHold_keeps 0 s)
  case h_25 => exact tested_done_keeps (enterRun_keeps s)
  case h_26 => exact drivePoint_keeps rq a s
  case h_27 => exact tested_done_keeps (roomResetEvent_keeps s)
  case h_28 => exact softReset_keeps a s
  case h_29 => exact .refl s

theorem replyTo_keeps (rq : Requester) (code : Byte) {p : Performed} {s : State} (h : Keeps L P s p.1) :
    Keeps L P s (replyTo rq code p) := by
  unfold replyTo
  split
  · split
    · exact h
    · exact h.trans (offer_getD_keeps _ _ _ _ (.refl _))
  · exact h

theorem accept_keeps (rq : Requester) (s : State) : Keeps L P s (accept rq s) :=
  (answer_keeps rq.port (some .ack) s).trans (.of_kept rfl rfl)

theorem respond_keeps {rq : Requester} {code : Byte} {perform : State → Performed}
    (h : ∀ u, Keeps L P u (perform u).1) (s : State) : Keeps L P s (respond rq code perform s) := by
  unfold respond
  split
  · exact answer_keeps ..
  · split
    · exact answer_keeps ..
    · split
      · exact answer_keeps ..
      · exact replyTo_keeps rq code ((accept_keeps rq s).trans (h (accept rq s)))

/-- R169, R172: what taking the value of a MANAGE frame keeps. -/
theorem takeManage_keeps (rq : Requester) (value : List Byte) (s : State) :
    Keeps ((valueCode value).toNat ∉ loadingCodes) ((valueCode value).toNat ≠ 13) s (takeManage rq value s) :=
  respond_keeps (performCode_keeps rq (valueCode value) value.tail) s

/-! ### Arrivals (R6, R27 to R38) -/

theorem relayUnconfirmed_keeps (p : Port) (f : Frame) (target : PointCode) (s : State) :
    Keeps L P s (relayUnconfirmed p f target s) := .ite (offer_getD_keeps _ _ _ _ (countDropped_keeps ..))

theorem relayConfirmed_keeps (p : Port) (f : Frame) (target : PointCode) (o : Owner) {u s : State} (h : Keeps L P s u) :
    Keeps L P s (relayConfirmed p f target o u s) := by
  unfold relayConfirmed
  split
  · split
    · rename_i ho
      exact (offer_keeps ho).trans (answer_keeps ..)
    · exact answer_keeps ..
  · exact h

theorem passFrame_keeps (p : Port) (f : Frame) (target : PointCode) (s : State) :
    Keeps L P s (passFrame p f target s) := by
  unfold passFrame
  split
  · exact relayConfirmed_keeps _ _ _ _ (.refl s)
  · exact relayUnconfirmed_keeps ..

theorem consume_keeps (e : PointEntry) (f : Frame) (s : State) : Keeps L P s (consume e f s) := by
  unfold consume
  split
  · exact pointArrival_keeps ..
  · exact .refl s

theorem consumeCommand_keeps (e : PointEntry) (f : Frame) (s : State) : Keeps L P s (consumeCommand e f s) := by
  unfold consumeCommand
  split
  · exact .refl s
  · exact (updatePoint_keeps _ (by exact fun _ => rfl) s).trans (consume_keeps ..)

theorem takeFrame_keeps (p : Port) (e : PointEntry) (f : Frame) (s : State) : Keeps L P s (takeFrame p e f s) := by
  unfold takeFrame
  split
  · exact .refl s
  · split
    · exact (answer_keeps ..).trans (consumeCommand_keeps ..)
    · exact answer_keeps ..
  · exact .ite (consume_keeps ..)

theorem copyFrame_keeps (p : Port) (e : PointEntry) (f : Frame) (target : PointCode) (s : State) :
    Keeps L P s (copyFrame p e f target s) := by
  unfold copyFrame
  split
  · exact passFrame_keeps ..
  · split
    · unfold copyCommand
      split
      · split
        · rename_i ho
          exact ((offer_keeps ho).trans (answer_keeps ..)).trans (consumeCommand_keeps ..)
        · exact answer_keeps ..
      · exact (answer_keeps ..).trans (consumeCommand_keeps ..)
    · exact answer_keeps ..
  · exact .ite ((relayUnconfirmed_keeps ..).trans (consume_keeps ..))

theorem pointFrame_keeps (p : Port) (f : Frame) (s : State) : Keeps L P s (pointFrame p f s) := by
  unfold pointFrame
  split
  · exact offer_getD_keeps _ _ _ _ (.refl s)
  · split
    · unfold listedFrame
      split
      · exact passFrame_keeps ..
      · exact takeFrame_keeps ..
      · exact copyFrame_keeps ..
      · exact .ite (answer_keeps ..)
    · exact .ite (passFrame_keeps ..)

/-- R27: what handling a good frame keeps; a request to the device keeps what its code keeps. -/
theorem classify_keeps {p : Port} {f : Frame} {s : State}
    (hL : f.kind = .manage → forDevice s f = true → L → (valueCode f.value).toNat ∉ loadingCodes)
    (hP : f.kind = .manage → forDevice s f = true → P → (valueCode f.value).toNat ≠ 13) :
    Keeps L P s (classify p f s) := by
  unfold classify
  split
  · rename_i hk
    unfold manageFrame
    split
    · rename_i hd
      exact (takeManage_keeps ..).mono (hL hk hd) (hP hk hd)
    · exact .ite (relayConfirmed_keeps _ _ _ _ (.refl s))
  · unfold manageReplyFrame
    split
    · exact .refl s
    · exact .ite (relayUnconfirmed_keeps ..)
  · exact pointFrame_keeps ..

/-- R37: whether a frame is for the device depends on the address only. -/
theorem forDevice_congr {s t : State} (h : t.address = s.address) (f : Frame) : forDevice t f = forDevice s f := by
  simp [forDevice, h]

/-- R6: what the arrival of bytes keeps; `hL` and `hP` speak of the frame that is received. -/
theorem frameArrives_keeps {p : Port} {bytes : List Byte} {begun : Nat} {s : State}
    (hL : ∀ f, receiving p s = true → begun = (s.port p).cuts → Frame.decode bytes = some f → f.kind = .manage →
      forDevice s f = true → L → (valueCode f.value).toNat ∉ loadingCodes)
    (hP : ∀ f, receiving p s = true → begun = (s.port p).cuts → Frame.decode bytes = some f → f.kind = .manage →
      forDevice s f = true → P → (valueCode f.value).toNat ≠ 13) :
    Keeps L P s (frameArrives p bytes begun s) := by
  unfold frameArrives
  split
  · rename_i h
    simp only [Bool.and_eq_true, beq_iff_eq] at h
    unfold receive
    split
    · exact countMalformed_keeps ..
    · rename_i f hf
      have hd : forDevice (showFrame false p f s) f = forDevice s f :=
        forDevice_congr (showFrame_shown false p f s).address f
      exact (showFrame_keeps ..).trans
        (classify_keeps (fun hk hv => hL f h.1 h.2 hf hk (hd ▸ hv)) (fun hk hv => hP f h.1 h.2 hf hk (hd ▸ hv)))
  · exact .refl s

/-! ### Time (R80, log 3) -/

theorem takeMinute_keeps (s : State) : Keeps L P s (takeMinute s) := by
  unfold takeMinute
  exact .ite ((advanceWing_event _).keeps.behind rfl rfl)

theorem groupTick_keeps (z : Zone) (s : State) : Keeps L P s (groupTick z s) := by
  unfold groupTick
  split
  · exact .refl s
  · refine .trans ?_ (commitGroup_roomWork ..).keeps
    refine .trans ?_ (.ite (raise_keeps ..))
    exact (expireOverrides_event ..).keeps.behind rfl rfl

theorem takeGroupTick_keeps (s : State) (z : Zone) : Keeps L P s (takeGroupTick s z) := .ite (groupTick_keeps z s)

theorem takeExpiry_keeps (expires : State → Group → Bool) (z : Zone) (s : State) :
    Keeps L P s (takeExpiry expires z s) := by
  unfold takeExpiry
  split
  · exact .ite (takeGroupTick_keeps s z)
  · exact .refl s

theorem takePeriodic_keeps (s : State) (z : Zone) : Keeps L P s (takePeriodic s z) := by
  unfold takePeriodic
  exact .ite ((airEvaluateZones_roomWork ..).keeps.behind rfl rfl)

theorem takeDwell_keeps (s : State) (z : Zone) : Keeps L P s (takeDwell s z) := by
  unfold takeDwell
  refine .ite ?_
  dsimp only
  split
  · exact (airEvaluateZones_roomWork ..).keeps.behind rfl rfl
  · exact .of_kept rfl rfl

theorem takeLightTick_keeps (s : State) (z : Zone) : Keeps L P s (takeLightTick s z) := by
  unfold takeLightTick
  exact .ite ((lightTickZone_roomWork ..).keeps.behind rfl rfl)

theorem takeSpacingEnd_keeps (s : State) (z : Zone) : Keeps L P s (takeSpacingEnd s z) :=
  .ite (testBlind_roomWork z s).keeps

theorem OutEntry.restart_backoffEnds (e : OutEntry) (t : Nat) : (e.backoffEnds t).restart = e.restart := by
  unfold backoffEnds; split <;> rfl

theorem OutEntry.restart_reattempts (e : OutEntry) (t : Nat) : (e.reattempts t).restart = e.restart := by
  unfold reattempts; split <;> rfl

theorem OutEntry.restart_refreshes (e : OutEntry) (t : Nat) : (e.refreshes t).restart = e.restart := by
  unfold refreshes; split <;> rfl

theorem takeTimer_keeps (s : State) (i : OutIndex) : Keeps L P s (takeTimer s i) :=
  updateOutput_keeps i
    (fun e => by rw [OutEntry.restart_refreshes, OutEntry.restart_reattempts, OutEntry.restart_backoffEnds]) s

theorem silenceExpires_keeps (c : PointCode) (s : State) : Keeps L P s (silenceExpires c s) := by
  unfold silenceExpires
  split
  · refine .ite (.trans ?_ (evidenceChanged_event ..).keeps)
    unfold clockSilent
    have h := (updatePoint_keeps (L := L) (P := P) (f := PointEntry.silent) c (fun _ => rfl) s).trans
      (raise_keeps .pointStale (detail16 c.toNat) _)
    split
    · exact (h.trans (raise_keeps ..)).trans (.of_kept rfl rfl)
    · exact h
  · exact .refl s

theorem asEvent_keeps {α : Type} {f : State → α → State} (h : ∀ s a, Keeps L P s (f s a)) (s : State) (a : α) :
    Keeps L P s (asEvent f s a) := (h s a).trans (settle_keeps _)

theorem sweep_keeps (s : State) : Keeps L P s (sweep s) := by
  have hf : ∀ {α : Type} {f : State → α → State} (_ : ∀ s a, Keeps L P s (f s a)) (l : List α) (u : State),
      Keeps L P u (l.foldl (asEvent f) u) := fun h l u => .foldl (asEvent_keeps h) l u
  unfold sweep
  refine .trans ?_ (hf takeTimer_keeps _ _)
  refine .trans ?_ (hf takeSpacingEnd_keeps _ _)
  refine .trans ?_ (hf takeLightTick_keeps _ _)
  refine .trans ?_ (hf takePeriodic_keeps _ _)
  refine .trans ?_ (hf takeDwell_keeps _ _)
  refine .trans ?_ (hf takeGroupTick_keeps _ _)
  refine .trans ?_ (hf (fun u c => silenceExpires_keeps c u) _ _)
  exact (takeMinute_keeps s).trans (settle_keeps _)

theorem quietTick_keeps (s : State) (z : Zone) : Keeps L P s (quietTick s z) := by
  unfold quietTick
  split
  · split
    · exact .refl s
    · exact takeGroupTick_keeps s z
  · exact .refl s

theorem tickSecond_keeps (s : State) : Keeps L P s (tickSecond s) := by
  unfold tickSecond
  refine .trans ?_ (.foldl quietTick_keeps _ _)
  have h : Keeps L P s (sweep s) := sweep_keeps s
  refine h.trans ?_
  generalize sweep s = u
  unfold advanceClock
  split
  · exact .of_kept rfl rfl
  · exact (advanceWing_event _).keeps.behind rfl rfl

end Sys2Proof.Machine
end

section
/-! SUPPORT. Where the frames of the offers go, and that the offers of one pass leave nothing to offer (R13, R117, R162, R171,
R181, R188). -/

namespace Sys2Proof.Machine

/-! ### What an offer marks, and the frame it leaves behind -/

/-- What offers can do, with each cleared mark answered by its frame in the queue. -/
structure Emitted (s t : State) : Prop extends Offered s t where
  noticeFrames : ∀ k, t.notice k = s.notice k ∨ (s.notice k).pending = true ∧
    t.notice k = { s.notice k with pending := false } ∧ ∃ x ∈ t.trunk.queue, x.owner = .notice k ∧ x.frame = noticeFrame s k
  reportFrames : ∀ l : Zone, t.groups[l] = s.groups[l] ∨ ∃ g, s.groups[l] = some g ∧ g.reportPending = true ∧
    t.groups[l] = some { g with reportPending := false } ∧
      ∃ x ∈ t.trunk.queue, x.owner = .report l ∧ x.frame = reportFrame s l g
  replyFrames : t.deferred = s.deferred ∨ ∃ d o, s.deferred = some d ∧ d.outcome = some o ∧ t.deferred = none ∧
    ∃ x ∈ (t.port d.port).queue, x.owner = .reply ∧
      x.frame = replyFrame s d.line d.node d.priority 26 .ok [driveOutcomeCode o]
  driveQueued : t.drive = s.drive ∨ ∃ d, s.drive = some d ∧ d.queued = false ∧ t.drive = some { d with queued := true }

theorem OffersFrame.address {s t : State} (h : OffersFrame s t) : t.address = s.address := by rw [h]
theorem OffersFrame.params {s t : State} (h : OffersFrame s t) : t.params = s.params := by rw [h]
theorem OffersFrame.up {s t : State} (h : OffersFrame s t) (p : Port) : (t.port p).up = (s.port p).up := by
  rw [h]; cases p <;> rfl

/-- R10, R14: an offer only takes own frames behind those a port held. -/
theorem Offered.port {s t : State} (h : Offered s t) (p : Port) : OwnAppended (s.port p) (t.port p) := by
  cases p
  · exact h.room
  · exact h.trunk

theorem OwnAppended.mem {q r : LinePort} (h : OwnAppended q r) {x : Queued} (hx : x ∈ q.queue) : x ∈ r.queue := by
  obtain ⟨fs, h, -⟩ := h
  exact h ▸ List.mem_append_left fs hx

/-- R180: the frame of a notice is the same after offers. -/
theorem Offered.noticeFrame_eq {s t : State} (h : Offered s t) (k : NoticeKind) : noticeFrame t k = noticeFrame s k := by
  simp [noticeFrame, ownFrame, noticeCode, (h.notices k).2, h.frame.address, h.frame.params]

/-- R116: the frame of a report is the same after offers. -/
theorem Offered.reportFrame_eq {s t : State} (h : Offered s t) (l : Zone) (g : Group) : reportFrame t l g = reportFrame s l g := by
  simp [reportFrame, ownFrame, statusCode, h.frame.address, h.frame.params]

theorem Offered.replyFrame_eq {s t : State} (h : Offered s t) (line : BitVec 4) (node : Byte) (priority : BitVec 2)
    (code : Byte) (r : Result) (data : List Byte) :
    replyFrame t line node priority code r data = replyFrame s line node priority code r data := by
  simp [replyFrame, ownFrame, h.frame.address]

/-- R10: what was refused is refused behind more frames. -/
theorem Offered.refused {s t : State} (h : Offered s t) {p : Port} (hr : admits p false s = false) :
    admits p false t = false := by
  obtain ⟨fs, hq, -⟩ := h.port p
  simp only [admits, hasRoom, h.frame.up p, hq, List.length_append] at hr ⊢
  cases hu : (s.port p).up <;> simp_all
  omega

theorem Emitted.refl (s : State) : Emitted s s :=
  ⟨.refl s, fun _ => .inl rfl, fun _ => .inl rfl, .inl rfl, .inl rfl⟩

theorem Emitted.trans {s t u : State} (a : Emitted s t) (b : Emitted t u) : Emitted s u where
  toOffered := a.toOffered.trans b.toOffered
  noticeFrames k := by
    rcases a.noticeFrames k with ha | ⟨hp, ha, x, hx, ho, hf⟩
    · rw [← ha, ← a.noticeFrame_eq k]; exact b.noticeFrames k
    · refine .inr ⟨hp, ?_, x, b.trunk.mem hx, ho, hf⟩
      rcases b.noticeFrames k with hb | ⟨hb, -⟩
      · rw [hb, ha]
      · simp [ha] at hb
  reportFrames l := by
    rcases a.reportFrames l with ha | ⟨g, hg, hp, ha, x, hx, ho, hf⟩
    · rw [← ha]
      rcases b.reportFrames l with hb | ⟨g, hg, hp, hb, x, hx, ho, hf⟩
      · exact .inl hb
      · exact .inr ⟨g, hg, hp, hb, x, hx, ho, hf.trans (a.reportFrame_eq l g)⟩
    · refine .inr ⟨g, hg, hp, ?_, x, b.trunk.mem hx, ho, hf⟩
      rcases b.reportFrames l with hb | ⟨g', hg', hp', -⟩
      · rw [hb, ha]
      · rw [ha] at hg'
        cases hg'
        simp at hp'
  replyFrames := by
    rcases a.replyFrames with ha | ⟨d, o, hd, hout, ha, x, hx, ho, hf⟩
    · rw [← ha]
      rcases b.replyFrames with hb | ⟨d, o, hd, hout, hb, x, hx, ho, hf⟩
      · exact .inl hb
      · exact .inr ⟨d, o, hd, hout, hb, x, hx, ho, hf.trans (a.replyFrame_eq ..)⟩
    · refine .inr ⟨d, o, hd, hout, ?_, x, (b.port d.port).mem hx, ho, hf⟩
      rcases b.replyFrames with hb | ⟨d', o', hd', -⟩
      · rw [hb, ha]
      · simp [ha] at hd'
  driveQueued := by
    rcases a.driveQueued with ha | ⟨d, hd, hq, ha⟩
    · rw [← ha]; exact b.driveQueued
    · refine .inr ⟨d, hd, hq, ?_⟩
      rcases b.driveQueued with hb | ⟨d', hd', hq', -⟩
      · rw [hb, ha]
      · rw [ha] at hd'
        cases hd'
        simp at hq'

theorem Emitted.foldl {α : Type} {f : State → α → State} (h : ∀ s a, Emitted s (f s a)) (l : List α) (s : State) :
    Emitted s (l.foldl f s) := foldl_related .refl .trans h l s

/-! ### Each offer: what it emits, and what it leaves to offer -/

/-- R10: after an admitted offer its frame is in the queue. -/
theorem mem_enqueue (q : LinePort) (f : Frame) (o : Owner) (r : Bool) :
    (⟨f, o, r, q.nextOrder, false⟩ : Queued) ∈ (q.enqueue f o r).queue := by simp

theorem offerDeferred_emitted (p : Port) (s : State) : Emitted s (offerDeferred p s) := by
  have hoff := offerDeferred_offered p s
  unfold offerDeferred at hoff ⊢
  cases hd : s.deferred with
  | none => exact .refl s
  | some d =>
    cases ho : d.outcome with
    | none => simpa [ho] using Emitted.refl s
    | some o =>
      by_cases hp : d.port = p
      · rcases offer_cases p (replyFrame s d.line d.node d.priority 26 .ok [driveOutcomeCode o]) .reply false s with
          ⟨-, h⟩ | ⟨-, h⟩
        · simp only [hd, ho, hp, h, ↓reduceIte] at hoff ⊢
          refine ⟨hoff, fun _ => .inl (by simp [State.notice]), fun _ => .inl (by simp),
            .inr ⟨d, o, hd, ho, rfl, ?_⟩, .inl (by simp)⟩
          have hq : ({ s.withPort p ((s.port p).enqueue (replyFrame s d.line d.node d.priority 26 .ok [driveOutcomeCode o])
              .reply false) with deferred := none } : State).port d.port = (s.port p).enqueue
                (replyFrame s d.line d.node d.priority 26 .ok [driveOutcomeCode o]) .reply false := by
            rw [hp]; cases p <;> rfl
          rw [hq]
          exact ⟨_, mem_enqueue .., rfl, rfl⟩
        · simp only [ho, hp, h, ↓reduceIte]; exact .refl s
      · simpa [ho, hp] using Emitted.refl s

theorem offerDeferred_leaves (p : Port) (s : State) :
    ∀ d ∈ (offerDeferred p s).deferred, d.outcome ≠ none → d.port = p → admits p false (offerDeferred p s) = false := by
  unfold offerDeferred
  cases hd : s.deferred with
  | none => simp [hd]
  | some d =>
    cases ho : d.outcome with
    | none => simp [hd, ho]
    | some o =>
      by_cases hp : d.port = p
      · rcases offer_cases p (replyFrame s d.line d.node d.priority 26 .ok [driveOutcomeCode o]) .reply false s with
          ⟨-, h⟩ | ⟨hr, h⟩
        · simp only [ho, hp, h, ↓reduceIte]
          nofun
        · simp only [ho, hp, h, ↓reduceIte]
          exact fun _ _ _ _ => hr
      · simp [ho, hp, hd]

theorem offerNotice_emitted (s : State) (k : NoticeKind) : Emitted s (offerNotice s k) := by
  have hoff := offerNotice_offered s k
  unfold offerNotice at hoff ⊢
  split
  · rename_i hp
    rcases offer_cases .trunk (noticeFrame s k) (.notice k) false s with ⟨-, h⟩ | ⟨-, h⟩
    · simp only [hp, h, if_true] at hoff ⊢
      refine ⟨hoff, fun j => ?_, fun _ => .inl rfl, .inl rfl, .inl rfl⟩
      by_cases hj : k = j
      · subst hj
        exact .inr ⟨hp, by simp, _, mem_enqueue s.trunk (noticeFrame s k) (.notice k) false, rfl, rfl⟩
      · exact .inl (by simp [State.notice_withNotice_ne _ _ hj])
    · rw [h]; exact .refl s
  · exact .refl s

theorem offerNotice_leaves (s : State) (k : NoticeKind) (h : admits .trunk false (offerNotice s k) = true) :
    ((offerNotice s k).notice k).pending = false := by
  unfold offerNotice at h ⊢
  split
  · rename_i hp
    rcases offer_cases .trunk (noticeFrame s k) (.notice k) false s with ⟨-, ho⟩ | ⟨hr, ho⟩
    · simp [ho]
    · rw [if_pos hp, ho] at h
      simp [hr] at h
  · rename_i hp
    simpa using hp

theorem offerReport_emitted (s : State) (l : Zone) : Emitted s (offerReport s l) := by
  have hoff := offerReport_offered s l
  unfold offerReport at hoff ⊢
  split
  · rename_i g hg
    split
    · rename_i hp
      rcases offer_cases .trunk (reportFrame s l g) (.report l) false s with ⟨-, h⟩ | ⟨-, h⟩
      · simp only [hg, hp, h, if_true] at hoff ⊢
        refine ⟨hoff, fun _ => .inl rfl, fun z => ?_, .inl rfl, .inl rfl⟩
        by_cases hz : l = z
        · subst hz
          exact .inr ⟨g, hg, hp, by simp, _, mem_enqueue s.trunk (reportFrame s l g) (.report l) false, rfl, rfl⟩
        · have : l.val ≠ z.val := fun e => hz (Fin.ext e)
          exact .inl (by simp [this])
      · rw [h]; exact .refl s
    · exact .refl s
  · exact .refl s

theorem offerReport_leaves (s : State) (l : Zone) (h : admits .trunk false (offerReport s l) = true) :
    ∀ g ∈ (offerReport s l).groups[l], g.reportPending = false := by
  unfold offerReport at h ⊢
  cases hg : s.groups[l] with
  | none => simp [hg]
  | some g =>
    cases hp : g.reportPending with
    | false => simp [hp, hg]
    | true =>
      rcases offer_cases .trunk (reportFrame s l g) (.report l) false s with ⟨-, ho⟩ | ⟨hr, ho⟩
      · simp [hp, ho]
      · simp [hg, hp, ho, hr] at h

theorem offerDrive_emitted (s : State) : Emitted s (offerDrive s) := by
  have hoff := offerDrive_offered s
  unfold offerDrive at hoff ⊢
  cases hd : s.drive with
  | none => exact .refl s
  | some d =>
    cases hq : d.queued with
    | true => simpa [hq] using Emitted.refl s
    | false =>
      rcases offer_cases .room d.frame .drive false s with ⟨-, h⟩ | ⟨-, h⟩
      · simp only [hd, hq, h] at hoff ⊢
        exact ⟨hoff, fun _ => .inl rfl, fun _ => .inl rfl, .inl rfl, .inr ⟨d, hd, hq, rfl⟩⟩
      · simpa [hq, h] using Emitted.refl s

theorem offerDrive_leaves (s : State) (h : admits .room false (offerDrive s) = true) :
    ∀ d ∈ (offerDrive s).drive, d.queued = true := by
  unfold offerDrive at h ⊢
  cases hd : s.drive with
  | none => simp [hd]
  | some d =>
    cases hq : d.queued with
    | true => simp [hd, hq]
    | false =>
      rcases offer_cases .room d.frame .drive false s with ⟨-, ho⟩ | ⟨hr, ho⟩
      · simp [hq, ho]
      · simp [hd, hq, ho, hr] at h

theorem admitOutput_emitted (s : State) (i : OutIndex) : Emitted s (admitOutput s i) := by
  have hoff := admitOutput_offered s i
  unfold admitOutput at hoff ⊢
  split
  · rename_i e he
    split
    · rename_i hel
      rcases offer_cases .room (outputFrame s e (e.frameValue s.free)) (.output i) false s with ⟨-, h⟩ | ⟨-, h⟩
      · simp only [he, hel, h, if_true] at hoff ⊢
        exact ⟨hoff, fun _ => .inl rfl, fun _ => .inl rfl, .inl rfl, .inl rfl⟩
      · rw [h]; exact .refl s
    · exact .refl s
  · exact .refl s

/-- R162: an entry just admitted is not eligible again. -/
theorem not_eligible_admitted (s : State) (e : OutEntry) (n : Nat) : eligible s (e.admitted n) = false := by
  simp [eligible, OutEntry.admitted]

theorem admitOutput_leaves (s : State) (i : OutIndex) (h : admits .room false (admitOutput s i) = true) :
    ∀ e, findOutput (admitOutput s i) i = some e → eligible (admitOutput s i) e = false := by
  unfold admitOutput at h ⊢
  cases he : findOutput s i with
  | none => simp [he]
  | some e =>
    cases hel : eligible s e with
    | false =>
      intro x hx
      simp only [hel, Bool.false_eq_true, ↓reduceIte] at hx ⊢
      rw [he] at hx
      cases hx
      exact hel
    | true =>
      rcases offer_cases .room (outputFrame s e (e.frameValue s.free)) (.output i) false s with ⟨-, ho⟩ | ⟨hr, ho⟩
      · intro x hx
        simp only [hel, ho, ↓reduceIte] at hx ⊢
        have hf : findOutput (updateOutput i (OutEntry.admitted s.free)
            (s.withPort .room (s.room.enqueue (outputFrame s e (e.frameValue s.free)) (.output i) false))) i = some x := hx
        rw [findOutput_updateOutput_self i (OutEntry.admitted s.free) _ (fun _ => rfl)] at hf
        obtain ⟨y, -, rfl⟩ := Option.map_eq_some_iff.mp hf
        exact not_eligible_admitted ..
      · simp only [he, hel, ho, ↓reduceIte, hr] at h
        cases h

/-! ### The offers together -/

theorem offerNotices_emitted (s : State) : Emitted s (offerNotices s) := .foldl offerNotice_emitted _ s
theorem offerReports_emitted (s : State) : Emitted s (offerReports s) := .foldl offerReport_emitted _ s
theorem arbiter_emitted (s : State) : Emitted s (arbiter s) := .foldl admitOutput_emitted _ s

theorem settleTrunk_emitted (s : State) : Emitted s (settleTrunk s) :=
  ((offerDeferred_emitted .trunk s).trans (offerNotices_emitted _)).trans (offerReports_emitted _)

theorem offerOthers_emitted (s : State) : Emitted s (offerOthers s) :=
  (offerDeferred_emitted .room s).trans (offerDrive_emitted _)

theorem Emitted.useFree (s : State) : Emitted s { s with free := s.free + 1 } :=
  ⟨.useFree s, fun _ => .inl rfl, fun _ => .inl rfl, .inl rfl, .inl rfl⟩

theorem settleRoom_emitted (s : State) : Emitted s (settleRoom s) := by
  unfold settleRoom
  split
  · split
    · exact ((Emitted.useFree s).trans (arbiter_emitted _)).trans (offerOthers_emitted _)
    · exact ((Emitted.useFree s).trans (offerOthers_emitted _)).trans (arbiter_emitted _)
  · exact (offerOthers_emitted s).trans (arbiter_emitted _)

/-- All that the offers which end an event can do, with the frames they leave. -/
theorem settle_emitted (s : State) : Emitted s (settle s) := (settleTrunk_emitted s).trans (settleRoom_emitted _)

/-! ### Nothing is left to offer -/

/-- What a fold of offers establishes for each of its steps, where offers keep it. -/
theorem foldl_leaves {α : Type} {f : State → α → State} {Q : α → State → Prop} (emits : ∀ s a, Emitted s (f s a))
    (leaves : ∀ s a, Q a (f s a)) (keeps : ∀ a s t, Emitted s t → Q a s → Q a t) (l : List α) (s : State) :
    ∀ a ∈ l, Q a (l.foldl f s) := by
  induction l generalizing s with
  | nil => simp
  | cons b l ih =>
    intro a ha
    rcases List.mem_cons.mp ha with rfl | ha
    · exact keeps a _ _ (.foldl emits l _) (leaves s a)
    · exact ih _ a ha

/-- R171: a deferred reply for a port is refused or gone. -/
def DeferredDone (p : Port) (s : State) : Prop :=
  ∀ d ∈ s.deferred, d.outcome ≠ none → d.port = p → admits p false s = false

/-- R181: a notice is offered, or its queue takes nothing. -/
def NoticeDone (k : NoticeKind) (s : State) : Prop := admits .trunk false s = true → (s.notice k).pending = false

/-- R117: a report is offered, or its queue takes nothing. -/
def ReportDone (l : Zone) (s : State) : Prop := admits .trunk false s = true → ∀ g ∈ s.groups[l], g.reportPending = false

/-- R188: a drive's frame is queued, or its queue takes nothing. -/
def DriveDone (s : State) : Prop := admits .room false s = true → ∀ d ∈ s.drive, d.queued = true

/-- R162: an entry is not eligible, or its queue takes nothing. -/
def EntryDone (i : OutIndex) (s : State) : Prop :=
  admits .room false s = true → ∀ e, findOutput s i = some e → eligible s e = false

theorem Offered.admits_before {s t : State} (h : Offered s t) {p : Port} (ha : admits p false t = true) :
    admits p false s = true := by
  cases hs : admits p false s with
  | true => rfl
  | false => rw [h.refused hs] at ha; exact ha

theorem Emitted.deferredDone {p : Port} {s t : State} (h : Emitted s t) (hd : DeferredDone p s) : DeferredDone p t := by
  intro d hm ho hp
  rcases h.deferred with heq | heq
  · exact h.refused (hd d (heq ▸ hm) ho hp)
  · simp [heq] at hm

theorem Emitted.noticeDone {k : NoticeKind} {s t : State} (h : Emitted s t) (hd : NoticeDone k s) : NoticeDone k t := by
  intro ha
  rcases h.noticeFrames k with heq | ⟨-, heq, -⟩
  · rw [heq]; exact hd (h.admits_before ha)
  · rw [heq]

theorem Emitted.reportDone {l : Zone} {s t : State} (h : Emitted s t) (hd : ReportDone l s) : ReportDone l t := by
  intro ha g hg
  rcases h.reportFrames l with heq | ⟨g', -, -, heq, -⟩
  · exact hd (h.admits_before ha) g (heq ▸ hg)
  · rw [heq] at hg
    cases hg
    rfl

theorem Emitted.driveDone {s t : State} (h : Emitted s t) (hd : DriveDone s) : DriveDone t := by
  intro ha d hm
  rcases h.driveQueued with heq | ⟨d', -, -, heq⟩
  · exact hd (h.admits_before ha) d (heq ▸ hm)
  · rw [heq] at hm
    cases hm
    rfl

theorem Emitted.entryDone {i : OutIndex} {s t : State} (h : Emitted s t) (hd : EntryDone i s) : EntryDone i t := by
  intro ha e he
  rcases h.outputs i with heq | ⟨e', n, -, -, heq⟩
  · rw [h.eligible]
    exact hd (h.admits_before ha) e (heq ▸ he)
  · rw [heq] at he
    cases he
    exact not_eligible_admitted ..

theorem offerNotices_leaves (s : State) : ∀ k ∈ allNotices, NoticeDone k (offerNotices s) :=
  foldl_leaves (Q := NoticeDone) offerNotice_emitted offerNotice_leaves (fun _ _ _ => Emitted.noticeDone) allNotices s

theorem offerReports_leaves (s : State) : ∀ l ∈ allZones, ReportDone l (offerReports s) :=
  foldl_leaves (Q := ReportDone) offerReport_emitted offerReport_leaves (fun _ _ _ => Emitted.reportDone) allZones s

theorem settleTrunk_leaves (s : State) :
    DeferredDone .trunk (settleTrunk s) ∧ (∀ k ∈ allNotices, NoticeDone k (settleTrunk s)) ∧
      ∀ l : Zone, ReportDone l (settleTrunk s) := by
  unfold settleTrunk
  have hd : DeferredDone .trunk (offerDeferred .trunk s) := offerDeferred_leaves .trunk s
  generalize offerDeferred .trunk s = u at hd ⊢
  have hn := offerNotices_leaves u
  have hd := (offerNotices_emitted u).deferredDone hd
  generalize offerNotices u = v at hn hd ⊢
  have e := offerReports_emitted v
  exact ⟨e.deferredDone hd, fun k hk => e.noticeDone (hn k hk), fun l => offerReports_leaves v l (mem_allZones l)⟩

theorem offerOthers_leaves (s : State) : DeferredDone .room (offerOthers s) ∧ DriveDone (offerOthers s) :=
  ⟨(offerDrive_emitted _).deferredDone (offerDeferred_leaves .room s), offerDrive_leaves _⟩

/-- R157: an ordered table's entry is found under its index. -/
theorem findOutput_of_mem {s : State} (h : OutputsSound s) {e : OutEntry} (he : e ∈ s.outputs) :
    findOutput s e.index = some e := by
  unfold findOutput
  replace h : s.outputs.Pairwise fun a b => a.index.val < b.index.val := h
  generalize s.outputs = l at h he
  induction l with
  | nil => simp at he
  | cons y ys ih =>
    obtain ⟨hy, hys⟩ := List.pairwise_cons.mp h
    rcases List.mem_cons.mp he with rfl | hm
    · simp
    · have hne : y.index ≠ e.index := fun hc => Nat.lt_irrefl _ (hc ▸ hy e hm)
      simpa [hne] using ih hys hm

/-- R162: the arbiter's order takes the index of every entry. -/
theorem mem_arbiterOrder {s : State} {e : OutEntry} (he : e ∈ s.outputs) : e.index ∈ arbiterOrder s := by
  unfold arbiterOrder
  refine List.mem_map_of_mem (List.mem_append.mpr ?_)
  by_cases hp : e.function.priority = 1
  · exact .inl (List.mem_filter.mpr ⟨he, by simpa using hp⟩)
  · exact .inr (List.mem_filter.mpr ⟨he, by simpa using hp⟩)

/-- R162: after the arbiter's pass every entry is done. -/
theorem arbiter_leaves {s : State} {i : OutIndex} (h : i ∈ s.outputs.map OutEntry.index) : EntryDone i (arbiter s) := by
  obtain ⟨e, he, rfl⟩ := List.mem_map.mp h
  exact foldl_leaves (Q := EntryDone) admitOutput_emitted admitOutput_leaves (fun _ _ _ => Emitted.entryDone) _ _ _
    (mem_arbiterOrder he)

/-- R160: the indices of a table are those of its static part. -/
theorem map_index_of_map_restart {l l' : List OutEntry} (h : l'.map OutEntry.restart = l.map OutEntry.restart) :
    l'.map OutEntry.index = l.map OutEntry.index := by
  have hm : ∀ m : List OutEntry, (m.map OutEntry.restart).map OutEntry.index = m.map OutEntry.index := fun m => List.map_map
  rw [← hm l', h, hm]

/-- What keeps the loaded tables keeps the indices of the outbound table. -/
theorem Keeps.map_index {s t : State} (h : Keeps True True s t) : t.outputs.map OutEntry.index = s.outputs.map OutEntry.index := by
  refine map_index_of_map_restart ?_
  have := h.loaded trivial
  simp only [State.loaded, Prod.mk.injEq] at this
  exact this.2.1

theorem settleRoom_leaves (s : State) : DeferredDone .room (settleRoom s) ∧ DriveDone (settleRoom s) ∧
    ∀ i ∈ (settleRoom s).outputs.map OutEntry.index, EntryDone i (settleRoom s) := by
  have hi : (settleRoom s).outputs.map OutEntry.index = s.outputs.map OutEntry.index := (settleRoom_keeps s).map_index
  rw [hi]
  have ha : ∀ u : State, u.outputs.map OutEntry.index = s.outputs.map OutEntry.index →
      ∀ i ∈ s.outputs.map OutEntry.index, EntryDone i (arbiter u) := fun u hu i hm => arbiter_leaves (hu ▸ hm)
  unfold settleRoom
  split
  · split
    · have ho := offerOthers_leaves (arbiter { s with free := s.free + 1 })
      exact ⟨ho.1, ho.2, fun i hm => (offerOthers_emitted _).entryDone (ha { s with free := s.free + 1 } rfl i hm)⟩
    · obtain ⟨hd, hq⟩ := offerOthers_leaves { s with free := s.free + 1 }
      exact ⟨(arbiter_emitted _).deferredDone hd, (arbiter_emitted _).driveDone hq,
        ha _ (offerOthers_keeps { s with free := s.free + 1 }).map_index⟩
  · obtain ⟨hd, hq⟩ := offerOthers_leaves s
    exact ⟨(arbiter_emitted _).deferredDone hd, (arbiter_emitted _).driveDone hq, ha _ (offerOthers_keeps s).map_index⟩

/-- R13, R162, R171, R181, R188: one pass of offers leaves nothing to offer. -/
theorem settle_settles {s : State} (h : OutputsSound s) : Settled (settle s) := by
  obtain ⟨hdt, hn, hr⟩ := settleTrunk_leaves s
  obtain ⟨hdr, hq, he⟩ := settleRoom_leaves (settleTrunk s)
  have e := settleRoom_emitted (settleTrunk s)
  have ho : OutputsSound (settle s) := (settle_keeps (L := True) (P := True) s).outputs h
  refine ⟨fun d hd hout => ?_, fun ha => ⟨fun k hk => e.noticeDone (hn k hk) ha, fun l => e.reportDone (hr l) ha⟩,
    fun ha => ⟨hq ha, fun x hx => ?_⟩⟩
  · cases hp : d.port with
    | room => exact hdr d hd hout hp
    | trunk => exact e.deferredDone hdt d hd hout hp
  · exact he x.index (List.mem_map_of_mem hx) ha x (findOutput_of_mem ho hx)

end Sys2Proof.Machine
end

section
/-! SUPPORT. The invariants every step keeps, and what each command leaves of the address and the loaded tables. -/

namespace Sys2Proof.Machine

/-! ### Commands as events -/

/-- Log 5: every request command is the arrival of its frame, performed by its code. -/
theorem exec_of_requestOf {c : Instr} {rq : Requester} {value : List Byte} (h : c.requestOf = some (rq, value)) (s : State) :
    exec c s = requested rq value (performCode rq (valueCode value) value.tail) s := by
  cases c
  case unknownRequest => cases h; rfl
  all_goals first
    | (cases h; rfl)
    | exact absurd h nofun

/-- R169: what a request command keeps, by the code its value begins with. -/
theorem request_keeps {L P : Prop} {rq : Requester} {value : List Byte} {s : State}
    (hL : receiving rq.port s = true → carriable rq value = true → L → (valueCode value).toNat ∉ loadingCodes)
    (hP : receiving rq.port s = true → carriable rq value = true → P → (valueCode value).toNat ≠ 13) :
    Keeps L P s (request rq value (performCode rq (valueCode value) value.tail) s) := by
  unfold request
  split
  · rename_i hr
    split
    · rename_i hc
      exact (showFrame_keeps ..).trans
        ((respond_keeps (performCode_keeps rq (valueCode value) value.tail) _).mono (hL hr hc) (hP hr hc))
    · exact countMalformed_keeps ..
  · exact .refl s

/-- R37: the frame of a request command is for the device. -/
theorem forDevice_requestFrame (rq : Requester) (value : List Byte) (s : State) :
    forDevice s (requestFrame rq value s) = true := by
  have hl : (requestFrame rq value s).target.extractLsb' 8 4 = s.address.trunkLine := BitVec.extractLsb'_append_eq_left
  have hn : (requestFrame rq value s).target.extractLsb' 0 8 = s.address.node := BitVec.extractLsb'_append_eq_right
  simp [forDevice, hl, hn]

/-- R172: the request code of a request command that its port receives and a good frame carries. -/
theorem requests_of_requestOf {c : Instr} {rq : Requester} {value : List Byte} (h : c.requestOf = some (rq, value)) {s : State}
    (hr : receiving rq.port s = true) (hc : carriable rq value = true) : c.requests s = some (valueCode value).toNat := by
  have hb : c.brings s = some (rq.port, requestFrame rq value s) := by
    have hif : (if receiving rq.port s = true ∧ carriable rq value = true then some (rq.port, requestFrame rq value s) else none) =
        some (rq.port, requestFrame rq value s) := if_pos ⟨hr, hc⟩
    cases c <;> first | (cases h; exact hif) | simp [Instr.requestOf] at h
  have hd := forDevice_requestFrame rq value s
  unfold Instr.requests
  rw [hb]
  exact if_pos ⟨rfl, hd⟩

theorem event_keeps {L P : Prop} {f : State → State} {s : State} (h : Keeps L P (clearPins s) (f (clearPins s))) :
    Keeps L P s (settle (f (clearPins s))) :=
  ((clearPins_keeps s).trans h).trans (settle_keeps _)

/-- R18: what the end of a reset signal keeps. -/
theorem signalEnds_keeps {L P : Prop} (s : State) : Keeps L P s (signalEnds s) := by
  unfold signalEnds
  have h := softResetEvent_keeps (L := L) (P := P) 2 { s with trunkSignal := false }
  generalize softResetEvent 2 { s with trunkSignal := false } = u at h
  split
  · exact h.behind rfl rfl
  · exact .refl s

/-- What every command but POWER_ON_RESET keeps, by the request it brings. -/
theorem exec_keeps {c : Instr} (s : State) (hc : ∀ a b n, c ≠ .powerOnReset a b n) : ∃ t, exec c s = .next t ∧
    Keeps (∀ n ∈ loadingCodes, c.requests s ≠ some n) (c.requests s ≠ some 13) s t := by
  cases hreq : c.requestOf with
  | some x =>
    obtain ⟨rq, value⟩ := x
    have hcode := requests_of_requestOf (s := s) hreq
    refine ⟨_, exec_of_requestOf hreq s, event_keeps (request_keeps (fun hr hv hL hm => ?_) fun hr hv hP h => ?_)⟩
    · exact hL _ hm (hcode hr hv)
    · exact hP (h ▸ hcode hr hv)
  | none =>
    cases c
    case powerOnReset a b n => exact absurd rfl (hc a b n)
    case linePowerUp p => exact ⟨_, rfl, event_keeps (powerUp_keeps p _)⟩
    case linePowerLoss p => exact ⟨_, rfl, event_keeps (powerLoss_keeps p _)⟩
    case frameArrival p bytes begun =>
      have hcode : ∀ f, receiving p s = true → begun = (s.port p).cuts → Frame.decode bytes = some f → f.kind = .manage →
          forDevice s f = true → (Instr.frameArrival p bytes begun).requests s = some (valueCode f.value).toNat :=
        fun f hr hb hf hk hd => by simp [Instr.requests, Instr.brings, hr, ← hb, hf, hk, hd]
      refine ⟨_, rfl, event_keeps (frameArrives_keeps (fun f hr hb hf hk hd hL hm => ?_) fun f hr hb hf hk hd hP h => ?_)⟩
      · exact hL _ hm (hcode f hr (by simpa using hb) hf hk hd)
      · exact hP (h ▸ hcode f hr (by simpa using hb) hf hk hd)
    case frameStart p => exact ⟨_, rfl, event_keeps (startHead_keeps p _)⟩
    case arbitrationLost p winner =>
      obtain ⟨bytes, begun⟩ := winner
      refine ⟨_, rfl, event_keeps ?_⟩
      unfold arbitrationLoses
      cases hq : sendingOf ((clearPins s).port p).queue with
      | none => exact .refl _
      | some q =>
        dsimp only
        split
        · rename_i hl
          rw [clearPins_port] at hq
          have hr' : receiving p (setSending p q.order false (clearPins s)) = receiving p s := by cases p <;> rfl
          have hb' : ((setSending p q.order false (clearPins s)).port p).cuts = (s.port p).cuts := by cases p <;> rfl
          have hd' : ∀ f, forDevice (setSending p q.order false (clearPins s)) f = forDevice s f :=
            fun f => forDevice_congr (by cases p <;> rfl) f
          have hcode : ∀ f, receiving p s = true → begun = (s.port p).cuts → Frame.decode bytes = some f →
              f.kind = .manage → forDevice s f = true →
              (Instr.arbitrationLost p ⟨bytes, begun⟩).requests s = some (valueCode f.value).toNat :=
            fun f hr hb hf hk hd => by simp [Instr.requests, Instr.brings, hq, hl, hr, ← hb, hf, hk, hd]
          refine (setWaiting_keeps p q.order _).trans
            (frameArrives_keeps (fun f hr hb hf hk hd hL hm => ?_) fun f hr hb hf hk hd hP h => ?_)
          · exact hL _ hm (hcode f (hr' ▸ hr) (hb' ▸ hb) hf hk (hd' f ▸ hd))
          · exact hP (h ▸ hcode f (hr' ▸ hr) (hb' ▸ hb) hf hk (hd' f ▸ hd))
        · exact .refl _
    case transmissionOutcome p heard => exact ⟨_, rfl, event_keeps (outcomeFixed_keeps p heard _)⟩
    case outboundAdmission => exact ⟨_, rfl, event_keeps (arbiter_keeps _)⟩
    case driveReoffer => exact ⟨_, rfl, event_keeps (offerDrive_keeps _)⟩
    case deferredReplyOffer =>
      exact ⟨_, rfl, event_keeps (f := fun s => offerDeferred .room (offerDeferred .trunk s))
        ((offerDeferred_keeps .trunk _).trans (offerDeferred_keeps .room _))⟩
    case noticeOffer =>
      exact ⟨_, rfl, event_keeps (f := fun s => offerNotices (offerDeferred .trunk s)) ((offerDeferred_keeps .trunk _).trans (offerNotices_keeps _))⟩
    case groupReportOffer => exact ⟨_, rfl, event_keeps (f := settleTrunk) (settleTrunk_keeps _)⟩
    case trunkLineResetSignal =>
      exact ⟨_, rfl, event_keeps (f := signalEnds) (signalEnds_keeps _)⟩
    case roomLineResetSignal => exact ⟨_, rfl, event_keeps (cutReception_keeps .room _)⟩
    case elapsedSecondTick => exact ⟨_, rfl, event_keeps (tickSecond_keeps _)⟩
    case minuteBoundary => exact ⟨_, rfl, event_keeps (takeMinute_keeps _)⟩
    case silenceExpiry code => exact ⟨_, rfl, event_keeps (silenceExpires_keeps code _)⟩
    case overrideExpiry z => exact ⟨_, rfl, event_keeps (takeExpiry_keeps overrideReached z _)⟩
    case holdoverExpiry z => exact ⟨_, rfl, event_keeps (takeExpiry_keeps holdoverReached z _)⟩
    case noShowExpiry z => exact ⟨_, rfl, event_keeps (takeExpiry_keeps noShowReached z _)⟩
    case quietTimeExpiry z => exact ⟨_, rfl, event_keeps (takeExpiry_keeps quietTaken z _)⟩
    case periodicEvaluation z => exact ⟨_, rfl, event_keeps (takePeriodic_keeps _ z)⟩
    case windowDwell z => exact ⟨_, rfl, event_keeps (takeDwell_keeps _ z)⟩
    case lightTick z => exact ⟨_, rfl, event_keeps (takeLightTick_keeps _ z)⟩
    case spacingEnd z => exact ⟨_, rfl, event_keeps (takeSpacingEnd_keeps _ z)⟩
    case backoffEnd i => exact ⟨_, rfl, event_keeps (updateOutput_keeps i (fun e => e.restart_backoffEnds s.elapsed) _)⟩
    case reattempt i => exact ⟨_, rfl, event_keeps (updateOutput_keeps i (fun e => e.restart_reattempts s.elapsed) _)⟩
    case refresh i => exact ⟨_, rfl, event_keeps (updateOutput_keeps i (fun e => e.restart_refreshes s.elapsed) _)⟩
    case trunkResetSignalSeen => exact ⟨_, rfl, event_keeps (.ite (.of_kept rfl rfl))⟩
    all_goals exact absurd hreq nofun

/-! ### POWER_ON_RESET (R7, R20) -/

/-- R13: with both ports DOWN nothing is left to offer. -/
theorem settled_of_down {s : State} (hr : s.room.up = false) (ht : s.trunk.up = false) : Settled s := by
  have h : ∀ p, admits p false s = false := fun p => by cases p <;> simp [admits, hr, ht]
  exact ⟨fun d _ _ => h d.port, fun ha => by simp [h] at ha, fun ha => by simp [h] at ha⟩

/-- R20: POWER_ON_RESET answers the power-on state. -/
theorem exec_powerOnReset (a b : BitVec 4) (n : Byte) (s : State) :
    exec (.powerOnReset a b n) s = .next (powerOnEvent ⟨a, b, n⟩ s) :=
  event_settled (f := powerOnEvent ⟨a, b, n⟩) (s := s) (settled_of_down rfl rfl)

/-- R20: the power-on state meets every invariant. -/
theorem powerOnEvent_sound (a : NodeAddress) (s t : State) : Sound t (powerOnEvent a s) where
  queues _ := ⟨PortSound.empty .room _ rfl, PortSound.empty .trunk _ rfl⟩
  counts _ := by
    refine ⟨Nat.zero_le _, Nat.zero_le _, Nat.zero_le _, Nat.zero_le _, fun u => ?_, Nat.zero_le _, Nat.zero_le _, nofun⟩
    simp [powerOnEvent, State.powerOn, MatchUnit.reset]
  outputs _ := .nil
  held _ _ := ⟨rfl, rfl⟩

/-- The invariants of every command. -/
theorem exec_sound (c : Instr) (s : State) : ∃ t, exec c s = .next t ∧ Sound s t := by
  by_cases h : ∃ a b n, c = .powerOnReset a b n
  · obtain ⟨a, b, n, rfl⟩ := h
    exact ⟨_, exec_powerOnReset a b n s, powerOnEvent_sound _ _ s⟩
  · obtain ⟨t, ht, hk⟩ := exec_keeps (c := c) s fun a b n hc => h ⟨a, b, n, hc⟩
    exact ⟨t, ht, hk.toSound⟩

/-- The invariants of every step. -/
theorem step_sound {s t : State} (h : step s = .next t) : Sound s t := by
  cases hp : s.pending with
  | nil =>
    rw [step_nil hp] at h
    cases h
    exact .refl s
  | cons c rest =>
    rw [step_cons hp] at h
    obtain ⟨u, hu, hs⟩ := exec_sound c { s with pending := rest }
    rw [h] at hu
    cases hu
    exact Sound.trans (t := { s with pending := rest }) (.of_guarded rfl) hs

/-- Log 6: every command ends with a pass of the offers. -/
theorem exec_eq_settle (c : Instr) (s : State) : ∃ u, exec c s = .next (settle u) := by
  cases hreq : c.requestOf with
  | some x => exact ⟨_, exec_of_requestOf hreq s⟩
  | none => cases c <;> exact ⟨_, rfl⟩

/-- Log 6: what a command leaves is what one more pass of the offers leaves. -/
theorem exec_settled {c : Instr} {s t : State} (h : exec c s = .next t) (ho : OutputsSound t) : Settled t := by
  obtain ⟨u, hu⟩ := exec_eq_settle c s
  rw [Host.Outcome.next.inj (h.symm.trans hu)] at ho ⊢
  have hr : (settle u).outputs.map OutEntry.restart = u.outputs.map OutEntry.restart := by
    have := (settle_keeps (L := True) (P := True) u).loaded trivial
    simp only [State.loaded, Prod.mk.injEq] at this
    exact this.2.1
  exact settle_settles (outputsSound_of_map_restart hr.symm ho)

end Sys2Proof.Machine

open Sys2Proof Sys2Proof.Machine

/-- Settles O4: every operation keeps both queues within their bounds and in order (step_sound). -/
theorem stepKeepsTransmitQueuesSound : Obligations.StepKeepsTransmitQueuesSound :=
  fun _ _ hq h => (step_sound h).queues hq

/-- Settles O5: every operation keeps the counts, the capture queue and wing time in range (step_sound). -/
theorem stepKeepsCountsInRange : Obligations.StepKeepsCountsInRange :=
  fun _ _ hc h => (step_sound h).counts hc

/-- Settles O9: the outbound table stays in order, and one pass of the offers at the end of a command leaves nothing to offer. -/
theorem stepLeavesNothingToOffer : Obligations.StepLeavesNothingToOffer := by
  intro s t ⟨ho, hs⟩ h
  have ho' := (step_sound h).outputs ho
  refine ⟨ho', ?_⟩
  cases hp : s.pending with
  | nil =>
    rw [step_nil hp] at h
    cases h
    exact hs
  | cons c rest => exact exec_settled (step_cons hp ▸ h) ho'

/-- Settles O13, by what each command keeps (exec_keeps) and what a power-on reset leaves. -/
theorem addressAndLoadedTablesKeepToTheirCommands : Obligations.AddressAndLoadedTablesKeepToTheirCommands := by
  intro c s t h
  refine ⟨?_, fun hc => ?_⟩
  · obtain ⟨u, hu, hs⟩ := exec_sound c s
    rw [h] at hu
    cases hu
    exact hs.held
  · obtain ⟨u, hu, hk⟩ := exec_keeps s hc
    rw [h] at hu
    cases hu
    exact ⟨hk.address, hk.loaded, hk.page⟩
end

section
/-! SUPPORT. The outcome slot, the reset states, the head of a queue, and the arrivals that change next to nothing. -/

namespace Sys2Proof.Machine

/-! ### The outcome slot (R9) -/

/-- R9: a code heard without its complement is as silence; with it, the three codes of the slot are told apart. -/
theorem heardOutcome_eq (heard : Option (Byte × Byte)) :
    heardOutcome heard =
      if heard = some (6, ~~~6) then .ack
      else if heard = some (21, ~~~21) then .nak
      else if heard = some (19, ~~~19) then .busy
      else .unheard := by
  match heard with
  | none => rfl
  | some (c, d) =>
    by_cases hd : d = ~~~c
    · subst hd
      have hpair : ∀ x : Byte, (some (c, ~~~c) = some (x, ~~~x)) = (c = x) := fun x => by
        simp only [Option.some.injEq, Prod.mk.injEq, eq_iff_iff]
        exact ⟨fun h => h.1, fun h => ⟨h, h ▸ rfl⟩⟩
      simp only [hpair]
      simp [heardOutcome, Answer.code]
    · have hne : ∀ x : Byte, some (c, d) ≠ some (x, ~~~x) := fun x h => by
        obtain ⟨rfl, rfl⟩ := Prod.mk.inj (Option.some.inj h)
        exact hd rfl
      rw [if_neg (hne 6), if_neg (hne 21), if_neg (hne 19)]
      simp [heardOutcome, hd]

/-! ### The reset states (R20) -/

/-- R182: STARTED is set with the cause and pending, every other notice clear. -/
theorem notice_noticesReset (cause : Byte) (s : State) (h : s.notices = noticesReset cause) (k : NoticeKind) :
    s.notice k = if k = .started then ⟨true, some (cause ++ (0 : BitVec 16)), true⟩ else ⟨false, none, false⟩ := by
  unfold State.notice
  rw [h]
  cases k <;> rfl

/-! ### The head of a queue (R11) -/

/-- R11: a frame stands before another: of lower priority number, or of its priority and not admitted later. -/
def Queued.precedes (a b : Queued) : Prop :=
  a.frame.priority.toNat < b.frame.priority.toNat ∨ (a.frame.priority = b.frame.priority ∧ a.order ≤ b.order)

theorem Queued.precedes_refl (a : Queued) : a.precedes a := .inr ⟨rfl, le_rfl⟩

theorem Queued.precedes_trans {a b c : Queued} (h : a.precedes b) (h' : b.precedes c) : a.precedes c := by
  unfold Queued.precedes at *
  rcases h with h | ⟨h, ho⟩ <;> rcases h' with h' | ⟨h', ho'⟩
  · exact .inl (h.trans h')
  · exact .inl (h' ▸ h)
  · exact .inl (h ▸ h')
  · exact .inr ⟨h.trans h', ho.trans ho'⟩

/-- R11: of two frames, the first admitted earlier, the one nearer the head stands before both. -/
theorem ahead_precedes {a b : Queued} (h : a.order < b.order) : (ahead a b).precedes a ∧ (ahead a b).precedes b := by
  unfold ahead
  split
  · rename_i hp
    exact ⟨.inl hp, b.precedes_refl⟩
  · rename_i hp
    refine ⟨a.precedes_refl, ?_⟩
    rcases Nat.lt_or_eq_of_le (not_lt.mp hp) with hlt | heq
    · exact .inl hlt
    · exact .inr ⟨BitVec.eq_of_toNat_eq heq, h.le⟩

theorem ahead_eq_or (a b : Queued) : ahead a b = a ∨ ahead a b = b := by
  unfold ahead
  split <;> simp

/-- R11: the search for the head from a frame admitted before those of a list in order. -/
theorem headOf_fold (l : List Queued) (a : Queued) (h : (a :: l).Pairwise fun a b => a.order < b.order) :
    ∃ x ∈ a :: l, l.foldl (fun acc e => match acc with
      | none => some e
      | some a => some (ahead a e)) (some a) = some x ∧ ∀ e ∈ a :: l, x.precedes e := by
  induction l generalizing a with
  | nil => exact ⟨a, by simp, rfl, by simpa using a.precedes_refl⟩
  | cons b l ih =>
    obtain ⟨ha, hbl⟩ := List.pairwise_cons.mp h
    obtain ⟨hb, hl⟩ := List.pairwise_cons.mp hbl
    have hlt : ∀ e ∈ l, (ahead a b).order < e.order := fun e he => by
      rcases ahead_eq_or a b with h | h <;> rw [h]
      · exact ha e (List.mem_cons_of_mem _ he)
      · exact hb e he
    obtain ⟨x, hx, hfold, hall⟩ := ih (ahead a b) (List.pairwise_cons.mpr ⟨hlt, hl⟩)
    obtain ⟨hpa, hpb⟩ := ahead_precedes (ha b (by simp))
    have hxh : x.precedes (ahead a b) := hall _ (by simp)
    refine ⟨x, ?_, hfold, fun e he => ?_⟩
    · rcases List.mem_cons.mp hx with rfl | hx
      · rcases ahead_eq_or a b with h | h <;> simp [h]
      · simp [hx]
    · rcases List.mem_cons.mp he with rfl | he
      · exact Queued.precedes_trans hxh hpa
      rcases List.mem_cons.mp he with rfl | he
      · exact Queued.precedes_trans hxh hpb
      · exact hall e (List.mem_cons_of_mem _ he)

/-- R11: a queue in order without a SENDING frame has a head, before every other. -/
theorem headOf_spec {l : List Queued} (ho : l.Pairwise fun a b => a.order < b.order) (hs : ∀ e ∈ l, e.sending = false)
    (hne : l ≠ []) : ∃ x ∈ l, headOf l = some x ∧ ∀ e ∈ l, x.precedes e := by
  have hf : l.filter (fun e => !e.sending) = l := List.filter_eq_self.mpr fun e he => by simp [hs e he]
  unfold headOf
  rw [hf]
  cases l with
  | nil => exact absurd rfl hne
  | cons a l => exact headOf_fold l a ho

theorem sendingOf_eq_none {l : List Queued} : sendingOf l = none ↔ ∀ e ∈ l, e.sending = false := by
  simp [sendingOf, List.find?_eq_none]

/-- R11: the port starts its head on a free line. -/
theorem startHead_head {p : Port} {s : State} {h : Queued} (hu : (s.port p).up = true)
    (hs : ∀ e ∈ (s.port p).queue, e.sending = false) (hh : headOf (s.port p).queue = some h) :
    startHead p s = setSending p h.order true s := by
  simp [startHead, hu, sendingOf_eq_none.mpr hs, hh]

/-- R11, log 4: without a frame to send, with one SENDING, or DOWN, the port starts nothing. -/
theorem startHead_none {p : Port} {s : State}
    (h : (s.port p).up = false ∨ (s.port p).queue = [] ∨ ∃ e ∈ (s.port p).queue, e.sending = true) :
    startHead p s = s := by
  unfold startHead
  rcases h with h | h | ⟨e, he, hs⟩
  · simp [h]
  · simp [h, headOf]
  · have : sendingOf (s.port p).queue ≠ none := fun hn => by
      have := sendingOf_eq_none.mp hn e he
      simp [hs] at this
    simp [Option.isNone_iff_eq_none, this]

/-! ### Arrivals that change next to nothing (R6, R18) -/

@[simp] theorem setSending_cuts (p : Port) (order : Nat) (b : Bool) (s : State) :
    ((setSending p order b s).port p).cuts = (s.port p).cuts := by cases p <;> rfl

/-- R11: returning a frame to WAITING leaves whether its port receives. -/
theorem receiving_setSending (p : Port) (order : Nat) (b : Bool) (s : State) :
    receiving p (setSending p order b s) = receiving p s := by cases p <;> rfl

theorem receiving_clearPins (p : Port) (s : State) : receiving p (clearPins s) = receiving p s := by cases p <;> rfl

theorem receiving_eq_false {p : Port} {s : State} (h : (s.port p).up = false ∨ (p = .trunk ∧ s.trunkSignal = true)) :
    receiving p s = false := by
  rcases h with h | ⟨rfl, h⟩ <;> simp [receiving, h]

theorem bump_eq (n : Nat) : bump n = if n < 65535 then n + 1 else n := rfl

end Sys2Proof.Machine

open Sys2Proof Sys2Proof.Machine

/-- Settles O15: the slot decides for the confirmed kinds (heardOutcome_eq), every other kind is done. -/
theorem outcomeFromTheSlot : Obligations.OutcomeFromTheSlot := by
  intro k heard
  unfold outcomeOf
  cases k <;> simp [Kind.confirmed, heardOutcome_eq]

/-- Settles O3: the tables of State.reset are empty, its zones absent and its ports DOWN. -/
theorem resetMeetsTheInvariants : Obligations.ResetMeetsTheInvariants := by
  have hz : ∀ z : Zone, State.reset.zones[z] = none ∧ State.reset.groups[z] = none := by decide
  have hg : ∀ z : Zone, State.reset.groups[z] = none := fun z => (hz z).2
  refine ⟨⟨PortSound.empty .room _ rfl, PortSound.empty .trunk _ rfl⟩, ?_, ?_, ⟨?_, ?_, ?_, ?_⟩, ?_, ?_, ?_, settled_of_down rfl rfl⟩
  · refine ⟨by decide, by decide, by decide, by decide, by decide, by decide, by decide, nofun⟩
  · exact ⟨⟨.nil, by decide⟩, .nil, ⟨.nil, by decide⟩, ⟨.nil, by decide⟩⟩
  · intro z c hc
    simp [(hz z).1] at hc
  · decide
  · decide
  · intro z g hm
    simp [hg] at hm
  · intro z g hm
    simp [hg] at hm
  · intro z c hc
    simp [(hz z).1] at hc
  · constructor
    · intro l g hm; simp [hg] at hm
    · intro l g hm; simp [hg] at hm
    · intro l g hm; simp [hg] at hm
    · intro l g hm; simp [hg] at hm
    · exact fun e he => absurd he List.not_mem_nil

/-- Settles O16: the power-on state field by field; it takes from the state before only what the model itself counts. -/
theorem powerOnResetReturnsEveryState : Obligations.PowerOnResetReturnsEveryState := by
  intro a b n s
  refine ⟨⟨powerOnEvent ⟨a, b, n⟩ s, exec_powerOnReset a b n s, ?_⟩, fun s' hp hf hr ht => ?_⟩
  · refine ⟨rfl, rfl, rfl, rfl, rfl, rfl, rfl, rfl, rfl, rfl, rfl, rfl, rfl, rfl, rfl, fun z => ?_, fun k => ?_, rfl, rfl,
      fun k => ?_, fun k => ?_, rfl, rfl, rfl, rfl, rfl, rfl, rfl, rfl, rfl, rfl, rfl, fun u => ?_,
      fun k => ?_⟩
    · simp [powerOnEvent, State.powerOn, ZoneOverride.reset, EvidenceRecord.reset, BookingView.reset]
    · simp [powerOnEvent, State.powerOn]
    · simp [powerOnEvent, State.powerOn]
    · simp [powerOnEvent, State.powerOn]
    · simp [powerOnEvent, State.powerOn]
    · simpa using notice_noticesReset 0 (powerOnEvent ⟨a, b, n⟩ s) rfl k
  · rw [exec_powerOnReset, exec_powerOnReset]
    simp [powerOnEvent, hp, hf, hr, ht]

/-- Settles O20: what an arrival that its port does not take, or takes as malformed, leaves (frameArrives_abandoned,
frameArrives_malformed). -/
theorem signalsDeafPortsAndMalformedFrames : Obligations.SignalsDeafPortsAndMalformedFrames := by
  intro s
  refine ⟨endsIn_event (f := cutReception .room) rfl, fun h => ?_, fun h => ?_, fun p bytes begun => ⟨fun h => ?_, fun hr hd => ?_, ?_⟩⟩
  · have := endsIn_event (c := .trunkResetSignalSeen) (f := signalSeen) (s := s) rfl
    rwa [signalSeen, clearPins_trunk, if_pos h] at this
  · have := endsIn_event (c := .trunkResetSignalSeen) (f := signalSeen) (s := s) rfl
    rwa [signalSeen, clearPins_trunk, if_neg (by simp [h])] at this
  · have hd : receiving p s = false ∨ begun ≠ (s.port p).cuts := by
      rcases h with h | h | h
      · exact .inl (receiving_eq_false (.inl h))
      · exact .inl (receiving_eq_false (.inr h))
      · exact .inr h
    refine ⟨?_, fun q hq hl => ?_⟩
    · have := endsIn_event (c := .frameArrival p bytes begun) (f := frameArrives p bytes begun) (s := s) rfl
      rwa [frameArrives_abandoned (by simpa [receiving_clearPins] using hd)] at this
    · have := endsIn_event (c := .arbitrationLost p ⟨bytes, begun⟩) (f := arbitrationLoses p bytes begun) (s := s) rfl
      rw [arbitrationLoses_eq (by simpa using hq) hl, frameArrives_abandoned
        (by simpa [receiving_setSending, receiving_clearPins] using hd)] at this
      simpa [setSending_eq, markSending] using this
  · refine ⟨?_, fun q hq hl => ?_⟩
    · have := endsIn_event (c := .frameArrival p bytes (s.port p).cuts) (f := frameArrives p bytes (s.port p).cuts) (s := s) rfl
      have hm := frameArrives_malformed (s := clearPins s) (by simpa [receiving_clearPins] using hr) hd
      rw [clearPins_port] at hm
      rw [hm] at this
      simpa [countMalformed, bump_eq] using this
    · have := endsIn_event (c := .arbitrationLost p ⟨bytes, (s.port p).cuts⟩)
        (f := arbitrationLoses p bytes (s.port p).cuts) (s := s) rfl
      have hm := frameArrives_malformed (p := p) (s := setSending p q.order false (clearPins s))
        (by simpa [receiving_setSending, receiving_clearPins] using hr) hd
      rw [setSending_cuts, clearPins_port] at hm
      rw [arbitrationLoses_eq (by simpa using hq) hl, hm] at this
      have heq : countMalformed p (setSending p q.order false (clearPins s)) =
          (clearPins s).withPort p { s.port p with
            queue := markSending q.order false (s.port p).queue, checkErrors := bump (s.port p).checkErrors } := by
        cases p <;> rfl
      rw [heq] at this
      exact this
  · intro hr c rq value hc hp hbad
    subst hp
    have := endsIn_event (c := c) (s := s) (exec_of_requestOf hc s)
    have hn : carriable rq value = false := by
      rcases hbad with h | h | h <;> simp [carriable, Requester.wellFormed, valueWellFormed, h]
    rw [request, if_pos (by simpa [receiving_clearPins] using hr), hn] at this
    simpa [countMalformed, bump_eq] using this

/-- Settles O32: the head of a queue in order (headOf_spec); a lost arbitration is the winner's arrival. -/
theorem frameStartSendsTheHead : Obligations.FrameStartSendsTheHead := by
  intro p s
  refine ⟨fun hu ho hs hne => ?_, fun h => ?_, fun winner begun h hq hl => ?_⟩
  · obtain ⟨x, hx, hh, hall⟩ := headOf_spec ho.1 hs hne
    refine ⟨x, hx, hall, ?_⟩
    have := endsIn_event (c := .frameStart p) (f := startHead p) (s := s) rfl
    rw [startHead_head (h := x) (by simpa using hu) (by simpa using hs) (by simpa using hh)] at this
    simpa [setSending] using this
  · have := endsIn_event (c := .frameStart p) (f := startHead p) (s := s) rfl
    rwa [startHead_none (by simpa using h)] at this
  · have hl := arbitrationLoses_eq (s := clearPins s) (begun := begun) (by simpa using hq) hl
    have hc : setSending p h.order false (clearPins s) = clearPins (setSending p h.order false s) := by cases p <;> rfl
    rw [hc] at hl
    exact congrArg (fun u => Host.Outcome.next (settle u)) hl
end

section
/-! SUPPORT. The frame on the line and its bytes (R4, R5, R6). -/

namespace Sys2Proof.Machine

/-! ### Fields of a byte -/

/-- R4: byte 0 holds three fields. -/
theorem extract_fields (p : BitVec 2) (k h : BitVec 3) :
    (p ++ k ++ h : BitVec 8).extractLsb' 6 2 = p ∧ (p ++ k ++ h : BitVec 8).extractLsb' 3 3 = k ∧
      (p ++ k ++ h : BitVec 8).extractLsb' 0 3 = h := by
  refine ⟨?_, ?_, BitVec.extractLsb'_append_eq_right⟩
  · exact (BitVec.extractLsb'_append_eq_of_le (by decide)).trans BitVec.extractLsb'_append_eq_left
  · exact (BitVec.extractLsb'_append_eq_of_le (by decide)).trans BitVec.extractLsb'_append_eq_right

/-- R4: a byte is its three fields. -/
theorem append_fields (b : Byte) : (b.extractLsb' 6 2 ++ b.extractLsb' 3 3 ++ b.extractLsb' 0 3 : BitVec 8) = b := by
  rw [BitVec.extractLsb'_append_extractLsb'_eq_extractLsb' (by decide)]
  exact (BitVec.extractLsb'_append_extractLsb'_eq_extractLsb' (x := b) (by decide)).trans (by simp)

/-- R4: byte 4 holds the toggle above the spare bits. -/
theorem getLsbD_toggle (b : Bool) (x : BitVec 7) : (BitVec.ofBool b ++ x : BitVec 8).getLsbD 7 = b := by
  rw [BitVec.getLsbD_append]
  simp

/-- R4: a byte is its top bit above the others. -/
theorem append_toggle (b : Byte) : (BitVec.ofBool (b.getLsbD 7) ++ b.extractLsb' 0 7 : BitVec 8) = b := by
  have h : BitVec.ofBool (b.getLsbD 7) = b.extractLsb' 7 1 := by
    ext i hi
    obtain rfl : i = 0 := by omega
    simp
  rw [h]
  exact (BitVec.extractLsb'_append_extractLsb'_eq_extractLsb' (x := b) (by decide)).trans (by simp)

/-- R4: a byte is its two halves. -/
theorem append_halves (b : Byte) : (b.extractLsb' 4 4 ++ b.extractLsb' 0 4 : BitVec 8) = b :=
  (BitVec.extractLsb'_append_extractLsb'_eq_extractLsb' (x := b) (by decide)).trans (by simp)

/-- R4: a target is its line above its node. -/
theorem append_target (t : PointCode) : (t.extractLsb' 8 4 ++ t.extractLsb' 0 8 : BitVec 12) = t :=
  (BitVec.extractLsb'_append_extractLsb'_eq_extractLsb' (x := t) (by decide)).trans (by simp)

theorem ofCode_eq_some {c : BitVec 3} {k : Kind} : Kind.ofCode c = some k ↔ k.code = c := by
  cases k <;> revert c <;> decide

theorem toNat_byteOf {n : Nat} (h : n < 256) : (byteOf n).toNat = n := by
  simp [byteOf, Nat.mod_eq_of_lt h]

/-! ### Decoding (R4, R5, R6) -/

/-- R6: the value of a good frame is short. -/
theorem Frame.good_length {f : Frame} (h : f.good = true) : f.value.length < 256 := by
  simp only [Frame.good, Bool.and_eq_true, decide_eq_true_eq] at h
  have : f.kind.maxLength ≤ 40 := by cases f.kind <;> decide
  omega

/-- R4: the fields that the six header bytes give. -/
def Frame.ofHeader (b0 b1 b2 b3 b4 : Byte) (k : Kind) (value : List Byte) : Frame :=
  { priority := b0.extractLsb' 6 2, kind := k, hop := b0.extractLsb' 0 3, originLine := b1.extractLsb' 4 4, originNode := b2
    target := b1.extractLsb' 0 4 ++ b3, toggle := b4.getLsbD 7, spare := b4.extractLsb' 0 7, value := value }

/-- R4: the header bytes give the fields back, and the fields the header bytes. -/
theorem ofHeader_iff {b0 b1 b2 b3 b4 : Byte} {value : List Byte} {f : Frame} :
    (Kind.ofCode (b0.extractLsb' 3 3) = some f.kind ∧ Frame.ofHeader b0 b1 b2 b3 b4 f.kind value = f) ↔
      f.header value.length = [b0, b1, b2, b3, b4, byteOf value.length] ∧ f.value = value := by
  constructor
  · rintro ⟨hk, hf⟩
    rw [ofCode_eq_some] at hk
    rw [← hf]
    refine ⟨?_, rfl⟩
    simp only [Frame.header, Frame.ofHeader, hk, append_fields, append_toggle, BitVec.extractLsb'_append_eq_left,
      BitVec.extractLsb'_append_eq_right, append_halves]
  · rintro ⟨hh, rfl⟩
    simp only [Frame.header, List.cons.injEq, and_true] at hh
    obtain ⟨h0, h1, h2, h3, h4⟩ := hh
    obtain ⟨hp, hc, ho⟩ := extract_fields f.priority f.kind.code f.hop
    rw [ofCode_eq_some, ← h0, ← h1, ← h2, ← h3, ← h4]
    refine ⟨hc.symm, ?_⟩
    simp only [Frame.ofHeader, hp, ho, getLsbD_toggle, BitVec.extractLsb'_append_eq_left,
      BitVec.extractLsb'_append_eq_right, append_target]

/-- R6: what bytes that are a good frame must be. -/
theorem decode_cons {b0 b1 b2 b3 b4 b5 : Byte} {rest : List Byte} {f : Frame} :
    Frame.decode (b0 :: b1 :: b2 :: b3 :: b4 :: b5 :: rest) = some f ↔
      rest.length = b5.toNat + 2 ∧
      rest.drop b5.toNat = be16 (crc ([b0, b1, b2, b3, b4, b5] ++ rest.take b5.toNat)).toNat ∧
      (Kind.ofCode (b0.extractLsb' 3 3) = some f.kind ∧ Frame.ofHeader b0 b1 b2 b3 b4 f.kind (rest.take b5.toNat) = f) ∧
      f.good = true := by
  have ht : (b0 :: b1 :: b2 :: b3 :: b4 :: b5 :: rest).take (6 + b5.toNat) =
      [b0, b1, b2, b3, b4, b5] ++ rest.take b5.toNat := by
    simp [Nat.add_comm 6]
  rw [← ht]
  simp only [Frame.decode, bne_iff_ne, ne_eq, ite_not]
  split
  · rename_i hl
    split
    · rename_i hc
      cases hk : Kind.ofCode (b0.extractLsb' 3 3) with
      | none => simp
      | some k =>
        simp only [Frame.ofHeader, Option.ite_none_right_eq_some, Option.some.injEq]
        constructor
        · rintro ⟨hg, rfl⟩
          exact ⟨hl, hc, ⟨rfl, rfl⟩, hg⟩
        · rintro ⟨-, -, ⟨rfl, hf⟩, hg⟩
          exact ⟨hf ▸ hg, hf⟩
    · rename_i hc
      simp [hc]
  · rename_i hl
    simp [hl]

/-- R4, R5, R6: decoding gives a frame exactly for the bytes of a good frame. -/
theorem decode_eq_some {bytes : List Byte} {f : Frame} :
    Frame.decode bytes = some f ↔ f.good = true ∧ f.encode = bytes := by
  constructor
  · intro h
    match bytes with
    | b0 :: b1 :: b2 :: b3 :: b4 :: b5 :: rest =>
      obtain ⟨hl, hc, hf, hg⟩ := decode_cons.mp h
      obtain ⟨hh, hv⟩ := ofHeader_iff.mp hf
      have hn : (rest.take b5.toNat).length = b5.toNat := by simp [hl]
      have hb : f.body = [b0, b1, b2, b3, b4, b5] ++ rest.take b5.toNat := by
        rw [Frame.body, hv, hh, hn]
        simp [byteOf]
      refine ⟨hg, ?_⟩
      rw [Frame.encode, hb, ← hc, List.append_assoc, List.take_append_drop]
      rfl
    | [] | [_] | [_, _] | [_, _, _] | [_, _, _, _] | [_, _, _, _, _] => cases h
  · rintro ⟨hg, rfl⟩
    have hn : (byteOf f.value.length).toNat = f.value.length := toNat_byteOf (Frame.good_length hg)
    have he : f.encode = f.header f.value.length ++ (f.value ++ be16 (crc f.body).toNat) := by
      simp [Frame.encode, Frame.body]
    rw [he]
    have hb : f.body = f.header f.value.length ++ f.value := rfl
    obtain ⟨b0, b1, b2, b3, b4, hh⟩ : ∃ b0 b1 b2 b3 b4 : Byte,
        f.header f.value.length = [b0, b1, b2, b3, b4, byteOf f.value.length] := ⟨_, _, _, _, _, rfl⟩
    have hf := ofHeader_iff.mpr ⟨hh, rfl⟩
    rw [hh] at hb ⊢
    refine decode_cons.mpr ⟨?_, ?_, ?_, hg⟩
    · simp [hn, be16]
    · simp [hn, hb]
    · simpa [hn] using hf

end Sys2Proof.Machine

open Sys2Proof Sys2Proof.Machine

/-- Settles O14: the header bytes and the fields give each other back (ofHeader_iff), and the check follows. -/
theorem frameEncodingRoundTrip : Obligations.FrameEncodingRoundTrip := fun _ _ => decode_eq_some
end

section
/-! SUPPORT. What a handed value does to the outbound table and the room queue, and what a scene change does (R146 to R152,
R161). -/

namespace Sys2Proof.Machine

/-! ### A handed value (R161) -/

theorem beyondDeadband_eq (f : OutFunction) (d : Nat) (a b : OutValue) :
    beyondDeadband f d a b =
      if f = .thermalMode then decide (a.quantity ≠ b.quantity)
      else decide (d < ((a.quantity : Int) - b.quantity).natAbs) := by
  have h : (a.quantity - b.quantity) + (b.quantity - a.quantity) = ((a.quantity : Int) - b.quantity).natAbs := by omega
  cases f <;> simp [beyondDeadband, h, bne, beq_eq_decide]

/-- R161: what an entry makes of a computed value, state by state. -/
theorem OutEntry.take_eq (e : OutEntry) (waiting : Bool) (v : OutValue) : e.take waiting v =
    match e.state with
    | .idle => { e with computed := some v, state := .pending, timer := none }
    | .pending => { e with computed := some v }
    | .queued =>
      if waiting = true ∧ e.exposed = false then { e with computed := some v, sent := some v }
      else { e with computed := some v, next := some v }
    | .backoff | .unanswered =>
      if e.exposed = true then { e with computed := some v, next := some v } else { e with computed := some v }
    | .confirmed =>
      if ∀ x ∈ e.confirmed, beyondDeadband e.function e.deadband v x = true then
        { e with computed := some v, state := .pending, timer := none }
      else { e with computed := some v }
    | .refused =>
      if ∀ x ∈ e.sent, v.quantity ≠ x.quantity then { e with computed := some v, state := .pending, timer := none }
      else { e with computed := some v } := by
  unfold OutEntry.take
  cases hs : e.state with
  | idle | pending | backoff | unanswered => rfl
  | queued => cases waiting <;> cases e.exposed <;> simp
  | confirmed =>
    cases h : e.confirmed with
    | none => simp [OutEntry.beyond, OutEntry.pend]
    | some x => cases hb : beyondDeadband e.function e.deadband v x <;> simp [OutEntry.beyond, OutEntry.pend, hb]
  | refused => cases e.sent <;> simp [OutEntry.pend]

theorem OutEntry.isFor_iff {e : OutEntry} {z : Zone} {f : OutFunction} : e.isFor z f = true ↔ e.zone = z ∧ e.function = f := by
  simp [OutEntry.isFor]

/-- R157: an entry is found under its index after each entry has changed in place. -/
theorem find_map_index {f : OutEntry → OutEntry} (hf : ∀ e, (f e).index = e.index) (l : List OutEntry) (i : OutIndex) :
    (l.map f).find? (fun e => e.index == i) = (l.find? fun e => e.index == i).map f := by
  simp only [List.find?_map, Function.comp_def, hf]

/-- R161: the entry that a value was handed past or to. -/
theorem findOutput_handTo {s : State} (h : OutputsSound s) (z : Zone) (f : OutFunction) (v : OutValue) {e : OutEntry}
    (he : e ∈ s.outputs) : findOutput (handTo z f v s) e.index =
      some (if e.isFor z f then e.take (frameWaiting s e.index) v else e) := by
  refine (find_map_index (fun e => ?_) s.outputs e.index).trans ?_
  · split <;> simp
  · have := findOutput_of_mem h he
    unfold findOutput at this
    rw [this]
    rfl

/-- R12, R161: the frame whose value is replaced is the WAITING one of a QUEUED, not exposed entry of the zone and function. -/
theorem replaceQueued_eq {s : State} (h : OutputsSound s) (z : Zone) (f : OutFunction) (v : OutValue) (q : Queued) :
    replaceQueued s z f v q =
      if q.sending = false ∧ ∃ e ∈ s.outputs, q.owner = .output e.index ∧ e.zone = z ∧ e.function = f ∧
          e.state = .queued ∧ e.exposed = false then
        { q with frame := { q.frame with value := f.encode v } }
      else q := by
  unfold replaceQueued
  split
  · rename_i i hi
    cases hf : findOutput s i with
    | none =>
      rw [if_neg]
      rintro ⟨-, e, he, ho, -⟩
      rw [hi] at ho
      cases ho
      rw [findOutput_of_mem h he] at hf
      cases hf
    | some e =>
      have he : e ∈ s.outputs := List.mem_of_find?_eq_some hf
      have hidx : e.index = i := by simpa using List.find?_some hf
      subst hidx
      refine if_congr ?_ rfl rfl
      simp only [Bool.and_eq_true, OutEntry.isFor_iff, beq_iff_eq, Bool.not_eq_true', hi, Owner.output.injEq]
      constructor
      · rintro ⟨⟨⟨⟨hz, hfn⟩, hst⟩, hx⟩, hq⟩
        exact ⟨hq, e, he, rfl, hz, hfn, hst, hx⟩
      · rintro ⟨hq, e', he', ho, hz, hfn, hst, hx⟩
        have := findOutput_of_mem h he'
        rw [← ho, hf] at this
        cases this
        exact ⟨⟨⟨⟨hz, hfn⟩, hst⟩, hx⟩, hq⟩
  · rename_i hn
    rw [if_neg]
    rintro ⟨-, e, -, ho, -⟩
    exact hn _ ho

/-! ### The blinds and a scene change (R146, R149, R150) -/

theorem blindTargetOf_eq {s : State} {z : Zone} {c : ZoneConfig} (h : s.zones[z] = some c) :
    blindTargetOf s z = blindGoal s z c := by
  unfold blindTargetOf blindGoal
  rw [h]
  cases hs : s.light[z].scene with
  | none => simp
  | some sel =>
    cases hh : (content s sel).height <;> cases hl : (content s sel).slat <;> simp [hh, hl]

theorem motionEstimate_eq (p : Params) (sent : Option BlindPosition) (height : Nat) : motionEstimate p sent height =
    match sent with
    | none => p.blindTravel
    | some o => (2 * (p.blindTravel * ((height : Int) - o.height).natAbs) + 1000) / 2000 := by
  cases sent with
  | none => rfl
  | some o =>
    have h : (height - o.height) + (o.height - height) = ((height : Int) - o.height).natAbs := by omega
    simp [motionEstimate, roundHalfUp, h]

theorem blindSend_eq (z : Zone) (p : BlindPosition) (s : State) : blindSend z p s = withBlindSend z p s := by
  simp only [blindSend, motionEstimate_eq]
  rfl

theorem LightRecord.sendPending_iff {r : LightRecord} {p : BlindPosition} (h : r.blindTarget = some p) :
    r.sendPending = true ↔ r.blindSent ≠ some p := by simp [LightRecord.sendPending, h]

theorem spacingEnded_iff {s : State} {r : LightRecord} :
    spacingEnded s r = true ↔ ∀ a ∈ r.lastSend, a + s.params.blindSpacing ≤ s.elapsed := by
  unfold spacingEnded
  cases r.lastSend <;> simp

theorem sendInhibited_iff {s : State} {z : Zone} {r : LightRecord} {p : BlindPosition} (h : r.blindTarget = some p) :
    sendInhibited s z r = false ↔ (windowOpen s z = true → p.height ≤ (r.blindSent.map (·.height)).getD 0) := by
  simp [sendInhibited, h]

/-- R150, R151: the test of a pending send. -/
theorem testBlind_eq {z : Zone} {s : State} {p : BlindPosition} (h : s.light[z].blindTarget = some p) :
    testBlind z s = if SendDue s z p then withBlindSend z p s else s := by
  unfold testBlind
  simp only [h]
  refine if_congr ?_ (blindSend_eq z p s) rfl
  rw [Bool.and_eq_true, Bool.and_eq_true, Bool.not_eq_true', LightRecord.sendPending_iff h, spacingEnded_iff,
    sendInhibited_iff h, and_assoc]

theorem recomputeBlind_eq {z : Zone} {c : ZoneConfig} {s : State} (h : s.zones[z] = some c) :
    recomputeBlind z s = withBlindGoal z c s := by
  unfold recomputeBlind withBlindGoal updateLight
  rw [blindTargetOf_eq h]
  cases hb : blindGoal s z c with
  | none => simp [testBlind]
  | some p => exact testBlind_eq (by simp)

/-- R146: a scene change of a present zone. -/
theorem sceneChange_eq {z : Zone} {c : ZoneConfig} {s : State} (sel : Selection) (h : s.zones[z] = some c) :
    sceneChange z sel s = withScene z c sel s := by
  unfold sceneChange withScene
  refine (recomputeBlind_eq (by exact h)).trans ?_
  congr 1
  simp [allZones, handChannel, channelFunction, updateLight, forZones, handTo]

end Sys2Proof.Machine

open Sys2Proof Sys2Proof.Machine

/-- Settles O44: an entry takes the value (OutEntry.take_eq), its WAITING frame is replaced (replaceQueued_eq), and a scene
change hands the four channels and recomputes the blinds (sceneChange_eq). -/
theorem handedValuesReachTheirEntries : Obligations.HandedValuesReachTheirEntries := by
  refine ⟨fun z fn v s h => ⟨?_, fun e he hz hf => ?_, fun e he hne => ?_, ?_⟩, fun z c sel s h => sceneChange_eq sel h⟩
  · simp [handTo]
  · rw [findOutput_handTo h z fn v he, if_pos (OutEntry.isFor_iff.mpr ⟨hz, hf⟩), OutEntry.take_eq]
    simp only [beyondDeadband_eq, hf]
    rfl
  · rw [findOutput_handTo h z fn v he, if_neg]
    rw [OutEntry.isFor_iff]
    rintro ⟨hz, hf⟩
    exact hne.elim (· hz) (· hf)
  · have hv : fn.encode v = match fn with
        | .thermalMode => [byteOf v.quantity]
        | .airflow | .blindHeight | .blindSlat => be16 v.quantity
        | _ => be16 v.quantity ++ [byteOf v.fade] := by cases fn <;> rfl
    have hq := List.map_congr_left (l := s.room.queue) fun q _ => replaceQueued_eq h z fn v q
    rw [hv] at hq
    exact congrArg (fun l => { s with outputs := (handTo z fn v s).outputs, room := { s.room with queue := l } }) hq
end

section
/-! SUPPORT. How a good frame is classified, and what becomes of one that is not consumed (R27, R28, R32, R35, R37, R38, R43). -/

namespace Sys2Proof.Machine

/-! ### A good frame's arrival (R6) -/

/-- R6, R185: what the arrival of a good frame ends in: what stands when its handling begins, classified. -/
theorem arrival_endsIn {p : Port} {bytes : List Byte} {f : Frame} {s v : State} (h : Receives p bytes f s)
    (hv : classify p f (arrivedAt p f s) = v) : EndsIn (.frameArrival p bytes (s.port p).cuts) s v := by
  have hr : Receives p bytes f (clearPins s) := ⟨by simpa [receiving_clearPins] using h.1, h.2⟩
  have hf := frameArrives_good hr
  rw [clearPins_port] at hf
  have := endsIn_event (c := .frameArrival p bytes (s.port p).cuts) (f := frameArrives p bytes (s.port p).cuts) (s := s) rfl
  rw [hf] at this
  exact hv ▸ this

theorem arrivedAt_port (p r : Port) (f : Frame) (s : State) : (arrivedAt p f s).port r = s.port r :=
  ((arrivedAt_shown p f s).port r).trans (clearPins_port s r)
theorem arrivedAt_points (p : Port) (f : Frame) (s : State) : (arrivedAt p f s).points = s.points := (arrivedAt_shown p f s).points
theorem arrivedAt_params (p : Port) (f : Frame) (s : State) : (arrivedAt p f s).params = s.params := (arrivedAt_shown p f s).params
theorem arrivedAt_groups (p : Port) (f : Frame) (s : State) : (arrivedAt p f s).groups = s.groups := (arrivedAt_shown p f s).groups
theorem arrivedAt_address (p : Port) (f : Frame) (s : State) : (arrivedAt p f s).address = s.address :=
  (arrivedAt_shown p f s).address
theorem arrivedAt_elapsed (p : Port) (f : Frame) (s : State) : (arrivedAt p f s).elapsed = s.elapsed :=
  (arrivedAt_shown p f s).elapsed

theorem findPoint_arrivedAt (p : Port) (f : Frame) (s : State) (c : PointCode) :
    findPoint (arrivedAt p f s) c = findPoint s c := by simp [findPoint, arrivedAt_points]

theorem isReportPoint_arrivedAt (p : Port) (f : Frame) (s : State) (c : PointCode) :
    isReportPoint (arrivedAt p f s) c = isReportPoint s c := by
  simp [isReportPoint, noticeCode, statusCode, arrivedAt_params]

/-! ### Classification (R27) -/

theorem classify_point {p : Port} {f : Frame} {s : State} (h : f.kind.isPoint = true) : classify p f s = pointFrame p f s := by
  unfold classify
  cases hk : f.kind <;> simp_all [Kind.isPoint]

/-- R43: a QUERY for a report point is answered. -/
theorem classify_query {p : Port} {f : Frame} {s : State} (hk : f.kind = .query) (h : isReportPoint s f.target = true) :
    classify p f s = answerQuery p f s := by
  rw [classify_point (by simp [hk, Kind.isPoint]), pointFrame, if_pos ⟨hk, h⟩]

/-- R27: a listed frame goes under its entry's disposition. -/
theorem classify_listed {p : Port} {f : Frame} {e : PointEntry} {s : State} (h : Listed p f e s) :
    classify p f s = listedFrame p e f s := by
  obtain ⟨hk, hq, he, hs⟩ := h
  rw [classify_point hk, pointFrame, if_neg hq]
  simp [listingEntry, he, hs]

/-- R28: an unlisted frame goes under the default of its direction. -/
theorem classify_unlisted {p : Port} {f : Frame} {s : State} (hk : f.kind.isPoint = true)
    (hq : ¬(f.kind = .query ∧ isReportPoint s f.target = true)) (h : ∀ e, findPoint s f.target = some e → e.side ≠ p) :
    classify p f s = unlistedFrame p f s := by
  have hn : listingEntry p f s = none := by
    unfold listingEntry
    cases he : findPoint s f.target with
    | none => rfl
    | some e => simp [h e he]
  rw [classify_point hk, pointFrame, if_neg hq, hn]

theorem listed_arrivedAt {p : Port} {f : Frame} {e : PointEntry} {s : State} (h : Listed p f e s) :
    Listed p f e (arrivedAt p f s) := by
  simpa only [Listed, isReportPoint_arrivedAt, findPoint_arrivedAt] using h

/-! ### To relay (R10, R29, R36) -/

/-- R29: where no relay is possible a relay does nothing. -/
theorem relayedAcross_impossible {p : Port} {f : Frame} (target : PointCode) (owner : Owner) (confirmed : Bool) {s : State}
    (h : f.hop = 0 ∨ (s.port (otherPort p)).up = false) : relayedAcross p f target owner confirmed s = s := by
  simp only [relayedAcross, if_pos h]

/-- R37: the relay of a confirmed frame that is else discarded. -/
theorem relayConfirmed_self (p : Port) (f : Frame) (target : PointCode) (owner : Owner) (s : State) :
    relayConfirmed p f target owner s s = relayedAcross p f target owner true s := by
  rw [relayConfirmed_eq]
  split
  · rename_i h
    exact (relayedAcross_impossible target owner true h).symm
  · rfl

/-- R32: PASS relays; a COMMAND is confirmed and its copy has a delivery record. -/
theorem passFrame_eq (p : Port) (f : Frame) (target : PointCode) (s : State) : passFrame p f target s =
    relayedAcross p f target (if f.kind = .command then .delivery f.target 0 else .relay) (f.kind == .command) s := by
  unfold passFrame
  by_cases h : f.kind = .command
  · simp [h, relayConfirmed_self]
  · rw [if_neg h, if_neg h, beq_eq_false_iff_ne.mpr h, relayUnconfirmed_eq]

/-! ### Report points (R43) -/

/-- R43: the answer to a QUERY for a report point. -/
theorem answerQuery_eq {p : Port} {f : Frame} {s : State} (hu : (s.port p).up = true) : answerQuery p f s =
    if (s.port p).queue.length < capacity p then
      s.withPort p ((s.port p).enqueue (ownFrame s .reply f.priority f.target false (reportValue s f.target)) .relay false)
    else s := by
  unfold answerQuery
  rcases offer_cases p (ownFrame s .reply f.priority f.target false (reportValue s f.target)) .relay false s with
    ⟨ha, h⟩ | ⟨ha, h⟩
  · rw [h, if_pos (by simpa [admits, hasRoom, hu] using ha)]
    rfl
  · rw [h, if_neg (by simpa [admits, hasRoom, hu] using ha)]
    rfl

/-- R43: the status points of two zones are told apart. -/
theorem statusCode_inj {s : State} {y z : Zone} (h : statusCode s y = statusCode s z) : y = z := by
  have := congrArg BitVec.toNat h
  simp only [statusCode, BitVec.toNat_ofNat] at this
  ext
  omega

theorem isReportPoint_statusCode (s : State) (z : Zone) : isReportPoint s (statusCode s z) = true := by
  rw [isReportPoint, Bool.or_eq_true, List.any_eq_true]
  exact .inr ⟨z, mem_allZones z, beq_self_eq_true _⟩

/-- R43: the value of a group's status point. -/
theorem reportValue_status {s : State} {z : Zone} (h : statusCode s z ≠ noticeCode s) :
    reportValue s (statusCode s z) = (s.groups[z].map Group.report).getD [] := by
  have heq : (fun y => statusCode s z == statusCode s y) = fun y => z == y := by
    funext y
    rw [Bool.eq_iff_iff, beq_iff_eq, beq_iff_eq]
    exact ⟨statusCode_inj, fun h => h ▸ rfl⟩
  have hfind : ∀ z : Zone, allZones.find? (fun y => z == y) = some z := by decide
  cases hg : s.groups[z] <;> simp [reportValue, h, heq, hfind, hg]

/-- R116: the member set of a report as bits. -/
theorem zoneSetByte_memberSet (zs : List Zone) :
    zoneSetByte (memberSet zs) = (allZones.map fun y => if y ∈ zs then 2 ^ y.val else 0).sum := by
  have hb : ∀ y : Zone, (if y ∈ zs then 2 ^ y.val else 0) = 2 ^ y.val * (zs.contains y).toNat := fun y => by
    by_cases h : y ∈ zs <;> simp [h]
  simp only [hb]
  simp [zoneSetByte, memberSet, forZones, allZones, Nat.add_assoc]

theorem reportedBooking_eq (g : Group) :
    g.reportedBooking = (g.members.filterMap fun y => g.booking.list[y]).headD 0 := by
  rw [Group.reportedBooking, ← List.head?_filterMap, List.headD_eq_head?_getD]

/-- R116: the value of a report, byte by byte. -/
theorem report_eq (g : Group) : g.report =
    [byteOf g.state.code, byteOf (allZones.map fun y => if y ∈ g.members then 2 ^ y.val else 0).sum] ++ be16 g.headCount ++
      be16 ((g.members.filterMap fun y => g.booking.list[y]).headD 0) ++ [byteOf g.effOverride.code] := by
  rw [Group.report, zoneSetByte_memberSet, reportedBooking_eq]

end Sys2Proof.Machine

open Sys2Proof Sys2Proof.Machine

/-- Settles O21: the classification of a good frame (classify_query, classify_listed, classify_unlisted) and what it then
does (answerQuery_eq, passFrame_eq). -/
theorem unconsumedFramesAreRelayedAnsweredOrDiscarded : Obligations.UnconsumedFramesAreRelayedAnsweredOrDiscarded := by
  intro p bytes f s h arrival u passed replied notices across
  have hport : ∀ r, u.port r = s.port r := fun r => arrivedAt_port p r f s
  have hup : (u.port p).up = true := by
    obtain ⟨hr, -⟩ := h
    simp only [receiving, Bool.and_eq_true] at hr
    rw [hport]
    exact hr.1
  have hcode : noticeCode u = notices := by simp only [noticeCode, u, notices, arrivedAt_params]
  have hstatus : ∀ z, statusCode u z = BitVec.ofNat 12 (s.params.statusBase + z.val) := fun z => by
    simp only [statusCode, u, arrivedAt_params]
  have hacross : routedAcross p u f = true ↔ across := by
    simp only [across, routedAcross, u, arrivedAt_address]
    cases p <;> simp
  have hdev : forDevice u f = forDevice s f := forDevice_congr (arrivedAt_address p f s) f
  have hreplied : ∀ v, reportValue u f.target = v → answerQuery p f u = replied v := fun v hv => by
    rw [answerQuery_eq hup, hv]
    simp only [replied, ownFrame, hport, u, arrivedAt_address]
  refine ⟨fun hk ht => arrival_endsIn h ?_, fun z hk hn ht => arrival_endsIn h ?_, fun e he hd => arrival_endsIn h ?_,
    fun e he hd => arrival_endsIn h ?_, fun hk hq he => arrival_endsIn h ?_, fun hk hd => arrival_endsIn h ?_,
    fun hk => arrival_endsIn h ?_⟩
  · rw [classify_query hk (by simp [isReportPoint, ht, u, ← hcode])]
    refine hreplied _ ?_
    rw [reportValue, if_pos (ht.trans hcode.symm)]
    rfl
  · have ht' : f.target = statusCode u z := ht.trans (hstatus z).symm
    rw [classify_query hk (ht' ▸ isReportPoint_statusCode u z)]
    refine hreplied _ ?_
    rw [ht', reportValue_status (by rwa [← ht', hcode])]
    simp only [u, arrivedAt_groups]
    cases s.groups[z] with
    | none => rfl
    | some g => exact report_eq g
  · rw [classify_listed (listed_arrivedAt he), listedFrame, hd]
    rfl
  · rw [classify_listed (listed_arrivedAt he), listedFrame, hd]
    exact passFrame_eq ..
  · rw [classify_unlisted hk (by rwa [isReportPoint_arrivedAt]) (by simpa only [findPoint_arrivedAt] using he), unlistedFrame,
      passFrame_eq]
    simp only [defaultPass, arrivedAt_params]
    cases p <;> rfl
  · rw [classify, hk]
    simp only [manageFrame, relayConfirmed_self]
    rw [if_neg (by simp [u, hdev, hd])]
    exact if_congr hacross rfl rfl
  · rw [classify, hk]
    simp only [manageReplyFrame, relayUnconfirmed_eq]
    by_cases hd : forDevice s f = true
    · rw [if_pos (by rw [hdev, hd]), if_neg (by simp [hd])]
    · rw [if_neg (by rw [hdev]; exact hd)]
      exact if_congr (hacross.trans (and_iff_right (by simpa using hd)).symm) rfl rfl
end

section
/-! SUPPORT. Power comes to a line: the first frame of an empty trunk queue (R3, R181, R182). -/

namespace Sys2Proof.Machine

/-- R181: an admitted notice is behind the trunk queue. -/
theorem offerNotice_admitted {s : State} {k : NoticeKind} (hp : (s.notice k).pending = true) (ha : admits .trunk false s = true) :
    (offerNotice s k).trunk.queue = s.trunk.queue ++ [⟨noticeFrame s k, .notice k, false, s.trunk.nextOrder, false⟩] := by
  unfold offerNotice
  rw [if_pos hp, offer_admitted ha]
  rfl

/-- R171: without a deferred reply none is offered. -/
theorem offerDeferred_none {p : Port} {s : State} (h : s.deferred = none) : offerDeferred p s = s := by
  unfold offerDeferred
  rw [h]

/-- R181: STARTED has the lowest kind code. -/
theorem offerNotices_eq (s : State) :
    offerNotices s = (allNotices.drop 1).foldl offerNotice (offerNotice s .started) := by
  unfold offerNotices
  exact List.foldl_cons ..

/-- Offers keep the counts of a port. -/
theorem OffersFrame.counts {s t : State} (h : OffersFrame s t) (p : Port) :
    (t.port p).checkErrors = (s.port p).checkErrors ∧ (t.port p).relayDropped = (s.port p).relayDropped := by
  rw [h]
  cases p <;> exact ⟨rfl, rfl⟩

/-- R181, R182: a pending STARTED is the first frame that the offers put in an empty trunk queue. -/
theorem settle_started {s : State} (hu : s.trunk.up = true) (hq : s.trunk.queue = []) (hd : s.deferred = none)
    (hp : (s.notice .started).pending = true) : ∃ fs, (settle s).trunk.queue =
      ⟨noticeFrame s .started, .notice .started, false, s.trunk.nextOrder, false⟩ :: fs := by
  have hn := offerNotice_admitted hp (by simp [admits, hasRoom, hu, hq, capacity, Config.trunkCapacity])
  have hs : settle s = settleRoom (offerReports ((allNotices.drop 1).foldl offerNotice (offerNotice s .started))) := by
    simp only [settle, settleTrunk, offerDeferred_none hd, offerNotices_eq]
  have ho : Offered (offerNotice s .started) (settle s) := hs ▸
    (((Emitted.foldl offerNotice_emitted _ _).trans (offerReports_emitted _)).trans (settleRoom_emitted _)).toOffered
  obtain ⟨fs, hfs, -⟩ := ho.trunk
  exact ⟨fs, by rw [hfs, hn, hq]; rfl⟩

/-- R1: the state in which a port is UP with one more reception cut off. -/
def poweredUp (p : Port) (s : State) : State :=
  s.withPort p { s.port p with up := true, cuts := (s.port p).cuts + 1 }

theorem powerUp_eq {p : Port} {s : State} (hu : (s.port p).up = false) (hn : nodeValid s.address.node = true) :
    powerUp p s = poweredUp p s := by
  unfold powerUp
  rw [hu, hn]
  cases p <;> rfl

theorem powerUp_none {p : Port} {s : State} (h : (s.port p).up = true ∨ nodeValid s.address.node = false) :
    powerUp p s = s := by
  unfold powerUp
  rcases h with h | h <;> simp [h]

theorem nodeValid_iff {n : Byte} : nodeValid n = true ↔ n ≠ 0 ∧ n ≠ 255 := by simp [nodeValid]

end Sys2Proof.Machine

open Sys2Proof Sys2Proof.Machine

/-- Settles O17: power brings the port up (powerUp_eq), and STARTED is the first notice offered (settle_started). -/
theorem linePowerUpBringsThePortUp : Obligations.LinePowerUpBringsThePortUp := by
  intro p s
  have he := endsIn_event (c := .linePowerUp p) (f := powerUp p) (s := s) rfl
  have hx : exec (.linePowerUp p) s = event (powerUp p) s := rfl
  refine ⟨fun hu hz hf => ?_, fun h => ?_⟩
  · have hpu : powerUp p (clearPins s) = poweredUp p (clearPins s) :=
      powerUp_eq (by simpa using hu) (nodeValid_iff.mpr ⟨hz, hf⟩)
    have hf := settle_offered (poweredUp p (clearPins s))
    obtain ⟨hc, hd⟩ := hf.frame.counts p
    have hu' := hf.frame.up p
    simp only [poweredUp, clearPins_port, State.port_withPort_self] at hf hc hd hu'
    rw [event_eq, hpu] at hx
    refine ⟨_, hx, hf, hu', hc, hd, ?_⟩
    rintro rfl hq hd hp
    exact settle_started (s := poweredUp .trunk (clearPins s)) rfl hq hd hp
  · rw [powerUp_none] at he
    · exact he
    · rcases h with h | h | h
      · exact .inl (by simpa using h)
      · exact .inr (by simp [nodeValid, h])
      · exact .inr (by simp [nodeValid, h])
end

section
/-! SUPPORT. What the match units do with one frame they are shown (R183, R185, R186): UnitsShown, unit by unit. -/

namespace Sys2Proof.Machine

/-! ### One unit (R185, R186) -/

/-- R185: a unit is hit by the frames it takes. -/
theorem MatchUnit.hitBy_iff (m : MatchUnit) (p : Port) (f : Frame) : m.hitBy p f = true ↔ m.Takes p f := by
  have hside : m.side.takes p = true ↔
      m.side = .either ∨ (m.side = .room ∧ p = .room) ∨ (m.side = .trunk ∧ p = .trunk) := by
    cases m.side <;> cases p <;> decide
  have hpoint : f.kind.isPoint = true ↔ f.kind ≠ .manage ∧ f.kind ≠ .manageReply := by cases f.kind <;> decide
  unfold MatchUnit.hitBy MatchUnit.Takes
  rw [Bool.and_eq_true, Bool.and_eq_true, hside, and_assoc]
  cases m.onOrigin <;> simp [hpoint, and_assoc]

/-- R185: counting a hit leaves what a unit takes. -/
theorem MatchUnit.takes_hits (m : MatchUnit) (n : Nat) (p : Port) (f : Frame) :
    ({ m with hits := n } : MatchUnit).Takes p f ↔ m.Takes p f := Iff.rfl

/-- R186: the record a frame makes at a unit. -/
def recordOf (transmitted : Bool) (p : Port) (f : Frame) (s : State) (u : Fin 5) : CaptureRecord where
  transmitted := transmitted
  port := p
  frame := { f with value := f.value.take 8 }
  length := f.value.length
  time := s.clock
  unit := u.val + 1

/-- R185: the units of a list that take a frame. -/
def takers (p : Port) (f : Frame) (s : State) (us : List (Fin 5)) : List (Fin 5) :=
  us.filter fun u => decide ((s.matchUnits[u]).Takes p f)

theorem recordsMade_eq (transmitted : Bool) (p : Port) (f : Frame) (s : State) :
    recordsMade transmitted p f s = (takers p f s (List.finRange 5)).map (recordOf transmitted p f s) := rfl

/-- R180, R183, R186: the notice a unit raises says its number. -/
def Notice.says (n : Notice) (u : Fin 5) : Prop :=
  n.flag = true ∧ n.detail = some (BitVec.ofNat 8 (u.val + 1) ++ (0 : BitVec 16))

/-- R183, R185, R186: what some of the units, in ascending number, have done between two states with a frame. -/
structure UnitsDone (transmitted : Bool) (p : Port) (f : Frame) (us : List (Fin 5)) (s t : State) : Prop where
  hits : ∀ u : Fin 5, t.matchUnits[u] =
    if u ∈ us ∧ (s.matchUnits[u]).Takes p f then { s.matchUnits[u] with hits := min 65535 ((s.matchUnits[u]).hits + 1) }
    else s.matchUnits[u]
  captures : t.captures = (s.captures ++ (takers p f s us).map (recordOf transmitted p f s)).take 32
  overflow : t.overflow = min 255 (s.overflow + (s.captures.length + (takers p f s us).length - 32))
  overflowNotice : 32 < s.captures.length + (takers p f s us).length →
    ∀ u ∈ takers p f s us, (∀ v ∈ takers p f s us, v ≤ u) → (t.notice .captureOverflow).says u
  hold : t.hold = true ↔ s.hold = true ∨ ∃ u ∈ takers p f s us, (s.matchUnits[u]).hold = true
  holdNotice : s.hold = false → ∀ u ∈ takers p f s us, (s.matchUnits[u]).hold = true →
    (∀ v ∈ takers p f s us, (s.matchUnits[v]).hold = true → u ≤ v) → (t.notice .holdEntered).says u
  clock : t.clock = s.clock

theorem UnitsDone.nil {transmitted : Bool} {p : Port} {f : Frame} {s : State} (h : CountsSound s) :
    UnitsDone transmitted p f [] s s := by
  obtain ⟨-, -, -, -, -, ho, hc, -⟩ := h
  refine ⟨fun u => by simp, ?_, ?_, ?_, by simp [takers], by simp [takers], rfl⟩
  · simp [takers, List.take_of_length_le hc]
  · simp [takers]
    omega
  · simp [takers]

/-! ### The effects of one unit that takes the frame -/

/-- R180: a raise replaces the notice of its kind. -/
theorem raise_eq (k : NoticeKind) (d : BitVec 24) (s : State) :
    raise k d s = s.withNotice k ⟨true, some d, (s.notice k).pending || !(s.notice k).flag⟩ := by
  unfold raise
  cases h : (s.notice k).flag <;> simp [h]

/-- R186: what a capture adds, or counts where the queue is full. -/
theorem addCapture_effect (transmitted : Bool) (p : Port) (f : Frame) (u : Fin 5) (s : State) :
    let t := addCapture transmitted p f (u.val + 1) s
    t.matchUnits = s.matchUnits ∧ t.hold = s.hold ∧ t.clock = s.clock ∧ t.notice .holdEntered = s.notice .holdEntered ∧
      if s.captures.length < 32 then
        t.captures = s.captures ++ [recordOf transmitted p f s u] ∧ t.overflow = s.overflow
      else t.captures = s.captures ∧ t.overflow = (if s.overflow < 255 then s.overflow + 1 else s.overflow) ∧
        (t.notice .captureOverflow).says u := by
  unfold addCapture Config.capturePlaces Config.overflowTop
  dsimp only
  split
  · exact ⟨rfl, rfl, rfl, rfl, rfl, rfl⟩
  · refine ⟨by rw [raise_eq]; rfl, by rw [raise_eq]; rfl, by rw [raise_eq]; rfl, raise_other _ _ (by decide),
      by rw [raise_eq]; rfl, by rw [raise_eq]; rfl, ?_⟩
    rw [raise_self]
    exact ⟨rfl, rfl⟩

/-- R183: what a unit's hold does: nothing in HOLD, else HOLD with its notice. -/
theorem enterHold_effect (u : Fin 5) (s : State) :
    let t := enterHold (u.val + 1) s
    t.matchUnits = s.matchUnits ∧ t.captures = s.captures ∧ t.overflow = s.overflow ∧ t.clock = s.clock ∧ t.hold = true ∧
      t.notice .captureOverflow = s.notice .captureOverflow ∧
      if s.hold = true then t.notice .holdEntered = s.notice .holdEntered else (t.notice .holdEntered).says u := by
  unfold enterHold
  cases hs : s.hold with
  | true => exact ⟨rfl, rfl, rfl, rfl, hs, rfl, rfl⟩
  | false =>
    refine ⟨by simp [raise_eq], by simp [raise_eq], by simp [raise_eq], by simp [raise_eq], by simp [raise_eq],
      raise_other _ _ (by decide), ?_⟩
    simp only [Bool.false_eq_true, ↓reduceIte]
    rw [raise_self]
    exact ⟨rfl, rfl⟩

/-- R183, R185, R186: what a unit that takes a frame does with it. -/
theorem showUnit_effect {transmitted : Bool} {p : Port} {f : Frame} {s : State} {u : Fin 5}
    (h : (s.matchUnits[u]).Takes p f) :
    let t := showUnit transmitted p f s u
    t.matchUnits = s.matchUnits.set u { s.matchUnits[u] with hits := bump (s.matchUnits[u]).hits } ∧
      t.clock = s.clock ∧ t.hold = (s.hold || (s.matchUnits[u]).hold) ∧
      (if (s.matchUnits[u]).hold = true ∧ s.hold = false then (t.notice .holdEntered).says u
        else t.notice .holdEntered = s.notice .holdEntered) ∧
      if s.captures.length < 32 then
        t.captures = s.captures ++ [recordOf transmitted p f s u] ∧ t.overflow = s.overflow
      else t.captures = s.captures ∧ t.overflow = (if s.overflow < 255 then s.overflow + 1 else s.overflow) ∧
        (t.notice .captureOverflow).says u := by
  have hh := (MatchUnit.hitBy_iff _ p f).mpr h
  unfold showUnit
  simp only [hh, if_true]
  obtain ⟨hm, hho, hc, hn, hq⟩ := addCapture_effect transmitted p f u
    { s with matchUnits := s.matchUnits.set u { s.matchUnits[u] with hits := bump (s.matchUnits[u]).hits } }
  generalize addCapture transmitted p f (u.val + 1)
    { s with matchUnits := s.matchUnits.set u { s.matchUnits[u] with hits := bump (s.matchUnits[u]).hits } } = v at *
  replace hho : v.hold = s.hold := hho
  replace hn : v.notice .holdEntered = s.notice .holdEntered := hn
  by_cases hu : (s.matchUnits[u]).hold = true
  · obtain ⟨em, ec, eo, ek, eh, en, ehn⟩ := enterHold_effect u v
    rw [if_pos hu, ec, eo, en]
    refine ⟨em.trans hm, ek.trans hc, eh.trans (by rw [hu, Bool.or_true]), ?_, hq⟩
    rw [hho] at ehn
    by_cases hs : s.hold = true
    · rw [if_pos hs, hn] at ehn
      rwa [if_neg (by simp [hs])]
    · rw [if_neg hs] at ehn
      rwa [if_pos ⟨hu, by simpa using hs⟩]
  · rw [if_neg hu]
    exact ⟨hm, hc, by rw [hho, Bool.eq_false_iff.mpr hu, Bool.or_false], by rwa [if_neg fun hx => hu hx.1], hq⟩

/-! ### The units in ascending number -/

theorem takers_append (p : Port) (f : Frame) (s : State) (us : List (Fin 5)) (u : Fin 5) :
    takers p f s (us ++ [u]) = takers p f s us ++ if (s.matchUnits[u]).Takes p f then [u] else [] := by
  rw [takers, takers, List.filter_append, List.filter_singleton]
  by_cases h : (s.matchUnits[u]).Takes p f
  · rw [if_pos h, decide_eq_true h]
    rfl
  · rw [if_neg h, decide_eq_false h]
    rfl

theorem mem_takers {p : Port} {f : Frame} {s : State} {us : List (Fin 5)} {u : Fin 5} :
    u ∈ takers p f s us ↔ u ∈ us ∧ (s.matchUnits[u]).Takes p f := by simp [takers]

/-- R186: one more record where the captured ones are fewer than the places, none else. -/
theorem take_append_record (l : List CaptureRecord) (x : CaptureRecord) :
    (if (l.take 32).length < 32 then l.take 32 ++ [x] else l.take 32) = (l ++ [x]).take 32 := by
  simp only [List.length_take]
  split
  · rw [List.take_of_length_le (by omega), List.take_of_length_le (by simp; omega)]
  · rw [List.take_append_of_le_length (by omega)]

/-- R185: one more unit, above those before it, is shown the frame. -/
theorem UnitsDone.append {transmitted : Bool} {p : Port} {f : Frame} {us : List (Fin 5)} {s t : State}
    (h : UnitsDone transmitted p f us s t) (hc : CountsSound s) {u : Fin 5} (hu : ∀ v ∈ us, v < u) :
    UnitsDone transmitted p f (us ++ [u]) s (showUnit transmitted p f t u) := by
  have hnm : u ∉ us := fun hm => lt_irrefl u (hu u hm)
  have hmu : t.matchUnits[u] = s.matchUnits[u] := by rw [h.hits u, if_neg fun hx => hnm hx.1]
  obtain ⟨-, -, -, -, hhits, hov, hcap, -⟩ := hc
  by_cases ht : (s.matchUnits[u]).Takes p f
  · obtain ⟨em, ec, eh, en, eq⟩ := showUnit_effect (transmitted := transmitted) (hmu ▸ ht)
    rw [hmu] at em eh en
    generalize showUnit transmitted p f t u = v at *
    have hrec : recordOf transmitted p f t u = recordOf transmitted p f s u := by simp [recordOf, h.clock]
    have htk : takers p f s (us ++ [u]) = takers p f s us ++ [u] := by rw [takers_append, if_pos ht]
    have hlt : ∀ x ∈ takers p f s us, x < u := fun x hx => hu x (mem_takers.mp hx).1
    have hb : bump (s.matchUnits[u]).hits = min 65535 ((s.matchUnits[u]).hits + 1) := by
      have := hhits u
      rw [bump_eq]
      split <;> omega
    have hl : t.captures.length = min 32 (s.captures.length + (takers p f s us).length) := by simp [h.captures]
    refine ⟨fun x => ?_, ?_, ?_, fun hgt x hx hmax => ?_, ?_, fun hs x hx hxh hmin => ?_, ec.trans h.clock⟩
    · rw [em]
      by_cases hxu : u = x
      · subst hxu
        rw [if_pos ⟨by simp, ht⟩, ← hb]
        exact Vector.getElem_set_self ..
      · refine (Vector.getElem_set_ne _ _ fun hv => hxu (Fin.ext hv)).trans ((h.hits x).trans (if_congr ?_ rfl rfl))
        simp [Ne.symm hxu]
    · rw [htk, List.map_append, ← List.append_assoc, List.map_singleton, ← take_append_record, ← h.captures, ← hrec]
      by_cases hc : t.captures.length < 32
      · rw [if_pos hc] at eq ⊢
        exact eq.1
      · rw [if_neg hc] at eq ⊢
        exact eq.1
    · rw [htk, List.length_append, List.length_singleton]
      have ho := h.overflow
      by_cases hc : t.captures.length < 32
      · rw [if_pos hc] at eq
        omega
      · rw [if_neg hc] at eq
        have := eq.2.1
        split at this <;> omega
    · rw [htk, List.length_append, List.length_singleton] at hgt
      rw [if_neg (by omega)] at eq
      have hux : u ≤ x := hmax u (by simp [htk])
      rw [htk, List.mem_append, List.mem_singleton] at hx
      rcases hx with hx | rfl
      · exact absurd (hlt x hx) (not_lt.mpr hux)
      · exact eq.2.2
    · rw [eh, Bool.or_eq_true, h.hold, or_assoc, htk]
      simp only [List.mem_append, List.mem_singleton, or_and_right, exists_or, exists_eq_left]
    · rw [htk, List.mem_append, List.mem_singleton] at hx
      by_cases hth : t.hold = true
      · obtain ⟨y, hy, hyh⟩ := (h.hold.mp hth).resolve_left (by simp [hs])
        have hxy : x ≤ y := hmin y (by simp [htk, hy]) hyh
        have hxu : x ∈ takers p f s us := hx.resolve_right fun he => absurd (hlt y hy) (not_lt.mpr (he ▸ hxy))
        rw [if_neg (by simp [hth])] at en
        rw [en]
        exact h.holdNotice hs x hxu hxh fun v hv => hmin v (by simp [htk, hv])
      · have hxu : x = u := hx.resolve_left fun hm => hth (h.hold.mpr (.inr ⟨x, hm, hxh⟩))
        subst hxu
        rwa [if_pos ⟨hxh, by simpa using hth⟩] at en
  · have hn : showUnit transmitted p f t u = t :=
      showUnit_unmatched (by rw [hmu, ← Bool.not_eq_true, MatchUnit.hitBy_iff]; exact ht)
    have htk : takers p f s (us ++ [u]) = takers p f s us := by rw [takers_append, if_neg ht, List.append_nil]
    rw [hn]
    refine ⟨fun x => ?_, htk ▸ h.captures, htk ▸ h.overflow, htk ▸ h.overflowNotice, htk ▸ h.hold, htk ▸ h.holdNotice, h.clock⟩
    rw [h.hits x]
    refine if_congr ?_ rfl rfl
    simp only [List.mem_append, List.mem_singleton]
    refine ⟨fun hx => ⟨.inl hx.1, hx.2⟩, fun ⟨hx, hx'⟩ => ⟨hx.resolve_right fun he => ht (he ▸ hx'), hx'⟩⟩

/-- R185, R186: what the match units do with a frame they are shown. -/
theorem showFrame_done (transmitted : Bool) (p : Port) (f : Frame) {s : State} (h : CountsSound s) :
    UnitsDone transmitted p f (List.finRange 5) s (showFrame transmitted p f s) :=
  (((((UnitsDone.nil h).append h (u := 0) (by decide)).append h (u := 1) (by decide)).append h (u := 2) (by decide)).append h
    (u := 3) (by decide)).append h (u := 4) (by decide)

theorem UnitsDone.shown {transmitted : Bool} {p : Port} {f : Frame} {s t : State}
    (h : UnitsDone transmitted p f (List.finRange 5) s t) : UnitsShown transmitted p f s t where
  hits u := by simpa using h.hits u
  captures := h.captures
  overflow := by rw [recordsMade_eq, List.length_map]; exact h.overflow
  overflowNotice hgt u hu hmax := by
    rw [recordsMade_eq, List.length_map] at hgt
    exact h.overflowNotice hgt u (mem_takers.mpr ⟨List.mem_finRange u, hu⟩) fun v hv => hmax v (mem_takers.mp hv).2
  hold := by
    rw [h.hold]
    simp only [mem_takers, List.mem_finRange, true_and]
  holdNotice hs u hu hmin :=
    h.holdNotice hs u (mem_takers.mpr ⟨List.mem_finRange u, hu.1⟩) hu.2 fun v hv hvh => hmin v ⟨(mem_takers.mp hv).2, hvh⟩

/-- R13, R185: a frame shown to the match units. -/
theorem showFrame_unitsShown (transmitted : Bool) (p : Port) (f : Frame) {s : State} (h : CountsSound s) :
    UnitsShown transmitted p f s (showFrame transmitted p f s) := (showFrame_done transmitted p f h).shown

/-! ### What the units' work rests on -/

/-- R183, R185, R186: the match units, the capture queue and the mode are as they were, and so what their notices say. -/
structure UnitsKept (s t : State) : Prop where
  units : t.matchUnits = s.matchUnits
  captures : t.captures = s.captures
  overflow : t.overflow = s.overflow
  hold : t.hold = s.hold
  notices : ∀ k, k = .captureOverflow ∨ k = .holdEntered →
    (t.notice k).flag = (s.notice k).flag ∧ (t.notice k).detail = (s.notice k).detail

theorem UnitsKept.refl (s : State) : UnitsKept s s := ⟨rfl, rfl, rfl, rfl, fun _ _ => ⟨rfl, rfl⟩⟩

theorem UnitsKept.trans {s t u : State} (a : UnitsKept s t) (b : UnitsKept t u) : UnitsKept s u :=
  ⟨b.units.trans a.units, b.captures.trans a.captures, b.overflow.trans a.overflow, b.hold.trans a.hold, fun k hk =>
    ⟨(b.notices k hk).1.trans (a.notices k hk).1, (b.notices k hk).2.trans (a.notices k hk).2⟩⟩

/-- What the units have done stands after what keeps it. -/
theorem UnitsShown.kept {transmitted : Bool} {p : Port} {f : Frame} {s t u : State} (h : UnitsShown transmitted p f s t)
    (k : UnitsKept t u) : UnitsShown transmitted p f s u where
  hits x := by rw [k.units]; exact h.hits x
  captures := k.captures.trans h.captures
  overflow := k.overflow.trans h.overflow
  overflowNotice hgt x hx hmax := by
    obtain ⟨hf, hd⟩ := k.notices .captureOverflow (.inl rfl)
    rw [hf, hd]
    exact h.overflowNotice hgt x hx hmax
  hold := by rw [k.hold]; exact h.hold
  holdNotice hs x hx hmin := by
    obtain ⟨hf, hd⟩ := k.notices .holdEntered (.inr rfl)
    rw [hf, hd]
    exact h.holdNotice hs x hx hmin

/-- What the units do rests on their records, the capture queue, the mode and the clock. -/
theorem UnitsShown.congr {transmitted : Bool} {p : Port} {f : Frame} {s s' t : State} (h : UnitsShown transmitted p f s' t)
    (hu : s'.matchUnits = s.matchUnits) (hc : s'.captures = s.captures) (ho : s'.overflow = s.overflow)
    (hh : s'.hold = s.hold) (hk : s'.clock = s.clock) : UnitsShown transmitted p f s t := by
  have hr : recordsMade transmitted p f s' = recordsMade transmitted p f s := by simp only [recordsMade, hu, hk]
  obtain ⟨h1, h2, h3, h4, h5, h6⟩ := h
  rw [hr] at h2 h3 h4
  rw [hc] at h2 h3 h4
  rw [hh] at h5 h6
  rw [ho] at h3
  rw [hu] at *
  exact ⟨h1, h2, h3, h4, h5, h6⟩

end Sys2Proof.Machine
end

section
/-! SUPPORT. The end of a transmission (R9, R13): the frame leaves, its owner acts, the match units are shown it. -/

namespace Sys2Proof.Machine

/-! ### What an owner's action can touch (R13, R14) -/

/-- R13, R14: what the owner of a frame can touch when its outcome is fixed or it is withdrawn. -/
def OwnerFrame (s t : State) : Prop :=
  t = { s with
    room := { s.room with queue := t.room.queue, nextOrder := t.room.nextOrder }
    trunk := { s.trunk with queue := t.trunk.queue, nextOrder := t.trunk.nextOrder }
    outputs := t.outputs
    notices := t.notices
    groups := t.groups
    deferred := t.deferred
    drive := t.drive
    driveToggle := t.driveToggle
    free := t.free }

theorem OwnerFrame.refl (s : State) : OwnerFrame s s := rfl

theorem OwnerFrame.trans {s t u : State} (a : OwnerFrame s t) (b : OwnerFrame t u) : OwnerFrame s u := by
  unfold OwnerFrame at *
  rw [b, a]

theorem raise_owner (k : NoticeKind) (d : BitVec 24) (s : State) : OwnerFrame s (raise k d s) := by
  rw [raise_eq]
  rfl

theorem updateOutput_owner (i : OutIndex) (f : OutEntry → OutEntry) (s : State) : OwnerFrame s (updateOutput i f s) := rfl

theorem withQueue_owner (p : Port) (s : State) (l : List Queued) (n : Nat) :
    OwnerFrame s (s.withPort p { s.port p with queue := l, nextOrder := n }) := by cases p <;> rfl

theorem endDrive_none {o : TxOutcome} {s : State} (h : s.drive = none) : endDrive o s = s := by
  unfold endDrive
  rw [h]

/-- R189: the end of a drive: its slot empties and its deferred reply is built, the entry of its code or the drive toggle takes
the outcome. -/
theorem endDrive_some {o : TxOutcome} {s : State} {d : Drive} (h : s.drive = some d) : ∃ l b,
    endDrive o s = { s with
      outputs := l, driveToggle := b, drive := none
      deferred := s.deferred.map fun (r : DeferredReply) => { r with outcome := some o } } := by
  unfold endDrive
  simp only [h]
  cases outputOfCode s d.frame.target with
  | some e => exact ⟨_, _, rfl⟩
  | none =>
    dsimp only
    split
    · exact ⟨_, _, rfl⟩
    · exact ⟨_, _, rfl⟩

theorem endDrive_owner (o : TxOutcome) (s : State) : OwnerFrame s (endDrive o s) := by
  cases h : s.drive with
  | none => rw [endDrive_none h]; rfl
  | some d =>
    obtain ⟨l, b, h⟩ := endDrive_some (o := o) h
    rw [h]
    rfl

theorem undelivered_owner (c : PointCode) (s : State) : OwnerFrame s (undelivered c s) := raise_owner ..

theorem deliveryOutcome_owner (p : Port) (f : Frame) (c : PointCode) (n : Nat) (o : TxOutcome) (s : State) :
    OwnerFrame s (deliveryOutcome p f c n o s) := by
  have h : OwnerFrame s (if n < 3 then
      match offer p f (.delivery c (n + 1)) true s with
      | some s' => s'
      | none => undelivered c s
    else undelivered c s) := by
    split
    · rcases offer_cases p f (.delivery c (n + 1)) true s with ⟨-, h⟩ | ⟨-, h⟩ <;> rw [h]
      · exact withQueue_owner p s _ _
      · exact undelivered_owner c s
    · exact undelivered_owner c s
  cases o with
  | ack | done => rfl
  | nak => exact undelivered_owner c s
  | busy | unheard => exact h

theorem outputOutcome_owner (i : OutIndex) (o : TxOutcome) (s : State) : OwnerFrame s (outputOutcome i o s) := by
  unfold outputOutcome
  cases findOutput s i with
  | none => rfl
  | some e =>
    dsimp only
    cases e.outcomeNotice o with
    | none => rfl
    | some k => exact (updateOutput_owner i _ s).trans (raise_owner ..)

theorem ownerOutcome_owner (p : Port) (q : Queued) (o : TxOutcome) (s : State) : OwnerFrame s (ownerOutcome p q o s) := by
  unfold ownerOutcome
  cases q.owner with
  | relay | reply | notice k | report l => rfl
  | delivery c n => exact deliveryOutcome_owner ..
  | output i => exact outputOutcome_owner ..
  | drive => exact endDrive_owner ..

/-! ### The whole command (R13) -/

theorem OutcomeFrame.trans {s t u : State} (a : OutcomeFrame s t) (b : OutcomeFrame t u) : OutcomeFrame s u := by
  unfold OutcomeFrame at *
  rw [b, a]

theorem OwnerFrame.outcome {s t : State} (h : OwnerFrame s t) : OutcomeFrame s t := by
  unfold OwnerFrame at h
  unfold OutcomeFrame
  rw [h]

theorem ShownFrame.outcome {s t : State} (h : ShownFrame s t) : OutcomeFrame s t := by
  unfold ShownFrame at h
  unfold OutcomeFrame
  rw [h]

theorem OffersFrame.outcome {s t : State} (h : OffersFrame s t) : OutcomeFrame s t := by
  unfold OffersFrame at h
  unfold OutcomeFrame
  rw [h]

/-- R13: what stands when the owner acts: no pin driven, the frame gone from its queue. -/
def outcomeStart (p : Port) (q : Queued) (s : State) : State := removeFrame p q.order (clearPins s)

/-- R13, R185: what stands when the owner has acted and the match units were shown the frame. -/
def outcomeShown (p : Port) (heard : Option (Byte × Byte)) (q : Queued) (s : State) : State :=
  showFrame true p q.frame (ownerOutcome p q (outcomeOf q.frame.kind heard) (outcomeStart p q s))

theorem exec_transmissionOutcome {p : Port} {heard : Option (Byte × Byte)} {q : Queued} {s : State}
    (h : sendingOf (s.port p).queue = some q) :
    exec (.transmissionOutcome p heard) s = .next (settle (outcomeShown p heard q s)) := by
  have hf : outcomeFixed p heard (clearPins s) = outcomeShown p heard q s := by
    simp [outcomeFixed, h, outcomeShown, outcomeStart]
  exact congrArg (fun u => Host.Outcome.next (settle u)) hf

theorem outcomeStart_port (p : Port) (q : Queued) (s : State) : (outcomeStart p q s).port p =
    { s.port p with queue := (s.port p).queue.filter fun x => x.order != q.order } := by
  cases p <;> rfl

theorem outcomeStart_frame (p : Port) (q : Queued) (s : State) : OutcomeFrame s (outcomeStart p q s) := by
  cases p <;> rfl

theorem outcomeStart_kept (p : Port) (q : Queued) (s : State) :
    (outcomeStart p q s).outputs = s.outputs ∧ (outcomeStart p q s).elapsed = s.elapsed ∧
      ∀ k, (outcomeStart p q s).notice k = s.notice k := by
  cases p <;> exact ⟨rfl, rfl, fun _ => rfl⟩

/-- What the whole of an outcome can touch. -/
theorem outcome_frame (p : Port) (heard : Option (Byte × Byte)) (q : Queued) (s : State) :
    OutcomeFrame s (settle (outcomeShown p heard q s)) :=
  (((outcomeStart_frame p q s).trans (ownerOutcome_owner ..).outcome).trans (showFrame_shown ..).outcome).trans
    (settle_offered _).frame.outcome

/-! ### The notices of the match units are their own -/

/-- R183, R186: showing a frame raises CAPTURE_OVERFLOW and HOLD_ENTERED only. -/
theorem showUnit_notice (transmitted : Bool) (p : Port) (f : Frame) (s : State) (u : Fin 5) {k : NoticeKind}
    (hc : k ≠ .captureOverflow) (hh : k ≠ .holdEntered) : (showUnit transmitted p f s u).notice k = s.notice k := by
  have ha : ∀ v : State, (addCapture transmitted p f (u.val + 1) v).notice k = v.notice k := fun v => by
    unfold addCapture
    split
    · rfl
    · exact raise_other _ _ hc.symm
  have he : ∀ v : State, (enterHold (u.val + 1) v).notice k = v.notice k := fun v => by
    unfold enterHold
    split
    · rfl
    · exact raise_other _ _ hh.symm
  unfold showUnit
  dsimp only
  split
  · split
    · rw [he, ha]; rfl
    · rw [ha]; rfl
  · rfl

theorem showFrame_notice (transmitted : Bool) (p : Port) (f : Frame) (s : State) {k : NoticeKind}
    (hc : k ≠ .captureOverflow) (hh : k ≠ .holdEntered) : (showFrame transmitted p f s).notice k = s.notice k :=
  foldl_related (R := fun s t => t.notice k = s.notice k) (fun _ => rfl) (fun a b => b.trans a)
    (fun s u => showUnit_notice transmitted p f s u hc hh) _ s

/-! ### A delivery record (R40, R41) -/

/-- R13: the frame that leaves makes room for one relayed copy where it was one. -/
theorem admits_after_removal {p : Port} {q : Queued} {s : State} (hu : (s.port p).up = true)
    (hb : QueueBounded p (s.port p)) (hq : q ∈ (s.port p).queue) (hr : q.relayed = true) :
    admits p true (outcomeStart p q s) = true := by
  obtain ⟨hlen, hshare⟩ := hb
  rw [admits_relayed_iff p _ (by simp [outcomeStart_port, hu]), outcomeStart_port]
  have hlt : ((s.port p).queue.filter fun x => x.order != q.order).length < (s.port p).queue.length :=
    List.length_filter_lt_length_iff_exists.mpr ⟨q, hq, by simp⟩
  have hlt' : (((s.port p).queue.filter (·.relayed)).filter fun x => x.order != q.order).length <
      ((s.port p).queue.filter (·.relayed)).length :=
    List.length_filter_lt_length_iff_exists.mpr ⟨q, List.mem_filter.mpr ⟨hq, hr⟩, by simp⟩
  have hswap : ((s.port p).queue.filter fun x => x.order != q.order).filter (·.relayed) =
      ((s.port p).queue.filter (·.relayed)).filter fun x => x.order != q.order := by
    simp only [List.filter_filter, Bool.and_comm]
  exact ⟨lt_of_lt_of_le hlt hlen, by rw [hswap]; exact lt_of_lt_of_le hlt' hshare⟩

theorem detail16_code (c : PointCode) : detail16 c.toNat = c.setWidth 16 ++ (0 : BitVec 8) := by
  have : BitVec.ofNat 16 c.toNat = c.setWidth 16 := by
    apply BitVec.eq_of_toNat_eq
    simp
  rw [detail16, this]

/-- R9: the outcome of a COMMAND is what was heard. -/
theorem outcomeOf_command {k : Kind} (h : k = .command) (heard : Option (Byte × Byte)) :
    outcomeOf k heard = heardOutcome heard := by
  subst h
  rfl

/-- R40, R41: what becomes of a delivery record: settled, admitted again with one more requeue, or undelivered. -/
theorem deliveryOutcome_cases {p : Port} {f : Frame} {c : PointCode} {n : Nat} {s : State} (ha : admits p true s = true) :
    deliveryOutcome p f c n .ack s = s ∧ deliveryOutcome p f c n .nak s = undelivered c s ∧
      ∀ o, o = .busy ∨ o = .unheard → deliveryOutcome p f c n o s =
        if n < 3 then s.withPort p ((s.port p).enqueue f (.delivery c (n + 1)) true) else undelivered c s := by
  refine ⟨rfl, rfl, ?_⟩
  rintro o (rfl | rfl) <;> simp only [deliveryOutcome, offer_admitted ha]

/-- What the offers and the match units leave of a port and of the notices that are not the units'. -/
theorem outcomeShown_after {p : Port} {heard : Option (Byte × Byte)} {q : Queued} {s : State} {w : State}
    (h : ownerOutcome p q (outcomeOf q.frame.kind heard) (outcomeStart p q s) = w) (r : Port) :
    OwnAppended (w.port r) ((settle (outcomeShown p heard q s)).port r) ∧
      ∀ k, k ≠ .captureOverflow → k ≠ .holdEntered →
        ((settle (outcomeShown p heard q s)).notice k).flag = (w.notice k).flag ∧
          ((settle (outcomeShown p heard q s)).notice k).detail = (w.notice k).detail := by
  have hs : ShownFrame w (outcomeShown p heard q s) := h ▸ showFrame_shown ..
  have ho := settle_offered (outcomeShown p heard q s)
  refine ⟨?_, fun k hc hh => ?_⟩
  · rw [← hs.port r]
    exact ho.port r
  have hn : (outcomeShown p heard q s).notice k = w.notice k := by
    rw [← h]
    exact showFrame_notice _ _ _ _ hc hh
  rw [← hn]
  exact ho.notices k

/-- R41, R180: an undelivered COMMAND sets its notice with the code it arrived with. -/
theorem undelivered_notice (c : PointCode) (s : State) : ((undelivered c s).notice .relayUndelivered).flag = true ∧
    ((undelivered c s).notice .relayUndelivered).detail = some (c.setWidth 16 ++ (0 : BitVec 8)) := by
  unfold undelivered
  rw [raise_self, detail16_code]
  exact ⟨rfl, rfl⟩

theorem undelivered_port (c : PointCode) (s : State) (p : Port) : (undelivered c s).port p = s.port p := by
  unfold undelivered
  exact (raise_shown ..).port p

end Sys2Proof.Machine

open Sys2Proof Sys2Proof.Machine

/-- Settles O34: the delivery record's cases (deliveryOutcome_cases), with room for the copy where its frame just left
(admits_after_removal). -/
theorem relayedCommandIsFollowedToItsEnd : Obligations.RelayedCommandIsFollowedToItsEnd := by
  intro p heard q c n s hu hb ho hq hown hrel hk left
  have hmem : q ∈ (s.port p).queue := List.mem_of_find?_eq_some hq
  obtain ⟨hack, hnak, hagain⟩ :=
    deliveryOutcome_cases (f := q.frame) (c := c) (n := n) (admits_after_removal hu hb hmem hrel)
  have hw : ∀ o w, heardOutcome heard = o → deliveryOutcome p q.frame c n o (outcomeStart p q s) = w →
      ownerOutcome p q (outcomeOf q.frame.kind heard) (outcomeStart p q s) = w := fun o w hh hd => by
    rw [outcomeOf_command hk, hh, ownerOutcome, hown]
    exact hd
  obtain ⟨-, -, hkept⟩ := outcomeStart_kept p q s
  have hlost : ∀ o, heardOutcome heard = o → deliveryOutcome p q.frame c n o (outcomeStart p q s) =
      undelivered c (outcomeStart p q s) → OwnAppended { s.port p with queue := left }
        ((settle (outcomeShown p heard q s)).port p) ∧
        ((settle (outcomeShown p heard q s)).notice .relayUndelivered).flag = true ∧
        ((settle (outcomeShown p heard q s)).notice .relayUndelivered).detail =
          some (c.setWidth 16 ++ (0 : BitVec 8)) := fun o hh hd => by
    obtain ⟨hp, hn⟩ := outcomeShown_after (hw o _ hh hd) p
    obtain ⟨hf, hdet⟩ := hn .relayUndelivered (by decide) (by decide)
    obtain ⟨uf, ud⟩ := undelivered_notice c (outcomeStart p q s)
    rw [undelivered_port, outcomeStart_port] at hp
    exact ⟨hp, hf.trans uf, hdet.trans ud⟩
  refine ⟨_, exec_transmissionOutcome hq, outcome_frame p heard q s, fun hh => ?_, fun hh hn => ?_, fun hh => ?_⟩
  · obtain ⟨hp, hn⟩ := outcomeShown_after (hw _ _ hh hack) p
    obtain ⟨hf, hd⟩ := hn .relayUndelivered (by decide) (by decide)
    rw [outcomeStart_port] at hp
    rw [hkept] at hf hd
    exact ⟨hp, hf, hd⟩
  · obtain ⟨hp, hno⟩ := outcomeShown_after (hw _ _ rfl (hagain _ hh)) p
    obtain ⟨hf, -⟩ := hno .relayUndelivered (by decide) (by decide)
    rw [if_pos hn] at hp hf
    rw [State.port_withPort_self, outcomeStart_port] at hp
    rw [State.notice_withPort, hkept] at hf
    refine ⟨?_, hf⟩
    obtain ⟨fs, hfs, hown⟩ := hp
    exact ⟨fs, hfs, hown⟩
  · rcases hh with hh | ⟨hh, hn⟩
    · exact hlost _ hh hnak
    · exact hlost _ rfl ((hagain _ hh).trans (if_neg (by omega)))
end

section
/-! SUPPORT. What the handling of a frame leaves of the match units' work (R183, R185, R186). -/

namespace Sys2Proof.Machine

/-! ### What keeps the units' work -/

theorem Offered.unitsKept {s t : State} (h : Offered s t) : UnitsKept s t := by
  refine ⟨?_, ?_, ?_, ?_, fun k _ => h.notices k⟩ <;> rw [h.frame]

theorem RoomEvent.unitsKept {s t : State} (h : RoomEvent s t) : UnitsKept s t := by
  refine ⟨?_, ?_, ?_, ?_, fun k hk => ?_⟩
  · rw [h.frame]
  · rw [h.frame]
  · rw [h.frame]
  · rw [h.frame]
  · rcases hk with rfl | rfl
    · rw [h.notices _ (by decide) (by decide) (by decide)]; exact ⟨rfl, rfl⟩
    · rw [h.notices _ (by decide) (by decide) (by decide)]; exact ⟨rfl, rfl⟩

theorem withPort_unitsKept (p : Port) (q : LinePort) (s : State) : UnitsKept s (s.withPort p q) :=
  ⟨by simp, by simp, by simp, by simp, fun _ _ => by simp⟩

theorem answer_unitsKept (p : Port) (a : Option Answer) (s : State) : UnitsKept s (answer p a s) :=
  ⟨by simp, by simp, by simp, by simp, fun _ _ => by simp [State.notice]⟩

theorem updatePoint_unitsKept (c : PointCode) (f : PointEntry → PointEntry) (s : State) : UnitsKept s (updatePoint c f s) :=
  ⟨rfl, rfl, rfl, rfl, fun _ _ => ⟨rfl, rfl⟩⟩

theorem relayedAcross_unitsKept (p : Port) (f : Frame) (target : PointCode) (owner : Owner) (confirmed : Bool) (s : State) :
    UnitsKept s (relayedAcross p f target owner confirmed s) := by
  unfold relayedAcross
  dsimp only
  split
  · exact .refl s
  · split
    · split
      · exact (withPort_unitsKept ..).trans (answer_unitsKept ..)
      · exact withPort_unitsKept ..
    · split
      · exact answer_unitsKept ..
      · exact withPort_unitsKept ..

/-! ### Frames that are not for the responder (R27) -/

theorem answerQuery_unitsKept (p : Port) (f : Frame) (s : State) : UnitsKept s (answerQuery p f s) := by
  unfold answerQuery
  rcases offer_cases p (ownFrame s .reply f.priority f.target false (reportValue s f.target)) .relay false s with
    ⟨-, h⟩ | ⟨-, h⟩ <;> rw [h]
  · exact withPort_unitsKept ..
  · exact .refl s

theorem passFrame_unitsKept (p : Port) (f : Frame) (target : PointCode) (s : State) : UnitsKept s (passFrame p f target s) := by
  rw [passFrame_eq]
  exact relayedAcross_unitsKept ..

theorem consume_unitsKept (e : PointEntry) (f : Frame) (s : State) : UnitsKept s (consume e f s) := by
  unfold consume
  split
  · exact (updatePoint_unitsKept ..).trans (pointArrival_event ..).unitsKept
  · exact .refl s

theorem consumeCommand_unitsKept (e : PointEntry) (f : Frame) (s : State) : UnitsKept s (consumeCommand e f s) := by
  unfold consumeCommand
  split
  · exact .refl s
  · exact (updatePoint_unitsKept ..).trans (consume_unitsKept ..)

theorem takeFrame_unitsKept (p : Port) (e : PointEntry) (f : Frame) (s : State) : UnitsKept s (takeFrame p e f s) := by
  have hconsume : UnitsKept s (if fits e f then consume e f s else s) := by
    split <;> [exact consume_unitsKept ..; exact .refl s]
  unfold takeFrame
  cases f.kind with
  | query => exact .refl s
  | command =>
    dsimp only
    split
    · exact (answer_unitsKept ..).trans (consumeCommand_unitsKept ..)
    · exact answer_unitsKept ..
  | state | reply | manage | manageReply => exact hconsume

/-- R34: what a frame under COPY has done before it is consumed: its copy is relayed where a relay is possible, else a COMMAND
is answered ACK. -/
def copied (p : Port) (f : Frame) (target : PointCode) (s : State) : State :=
  if relayPossible p f s = true then
    relayedAcross p f target (if f.kind = .command then .delivery f.target 0 else .relay) (f.kind == .command) s
  else if f.kind = .command then answer p (some .ack) s else s

/-- R34: a COMMAND under COPY is turned away where its copy has no relay room, else consumed behind its copy. -/
theorem copyCommand_eq {p : Port} {f : Frame} (hk : f.kind = .command) (e : PointEntry) (target : PointCode) (s : State) :
    copyCommand p e f target s =
      if relayPossible p f s = true ∧ admits (otherPort p) true s = false then copied p f target s
      else consumeCommand e f (copied p f target s) := by
  unfold copyCommand copied
  by_cases hr : relayPossible p f s = true
  · have hno := (relayPossible_iff p f s).mp hr
    have hrel := relayConfirmed_eq p f target (.delivery f.target 0) s s
    rw [if_neg hno] at hrel
    rw [if_pos hr, if_pos hr, if_pos hk, beq_iff_eq.mpr hk, ← hrel, relayConfirmed, if_pos hr]
    unfold offerCopy
    rcases offer_cases (otherPort p) (relayedCopy f target) (.delivery f.target 0) true s with ⟨ha, h⟩ | ⟨ha, h⟩
    · rw [h, if_neg (by simp [ha])]
    · rw [h, if_pos ⟨hr, ha⟩]
  · rw [if_neg hr, if_neg hr, if_pos hk, if_neg fun h => hr h.1]

/-- R34: another frame under COPY that fits is consumed behind its copy. -/
theorem copied_unconfirmed {p : Port} {f : Frame} (hk : f.kind ≠ .command) (target : PointCode) (s : State) :
    relayUnconfirmed p f target s = copied p f target s := by
  unfold copied
  rw [relayUnconfirmed_eq, if_neg hk, if_neg hk, beq_eq_false_iff_ne.mpr hk]
  by_cases hr : relayPossible p f s = true
  · rw [if_pos hr]
  · rw [if_neg hr]
    exact relayedAcross_impossible _ _ _ (not_not.mp (mt (relayPossible_iff p f s).mpr hr))

theorem copied_unitsKept (p : Port) (f : Frame) (target : PointCode) (s : State) : UnitsKept s (copied p f target s) := by
  unfold copied
  split
  · exact relayedAcross_unitsKept ..
  · split
    · exact answer_unitsKept ..
    · exact .refl s

/-- R34: COPY, by kind. -/
theorem copyFrame_eq (p : Port) (e : PointEntry) (f : Frame) (target : PointCode) (s : State) :
    copyFrame p e f target s =
      if f.kind = .query then passFrame p f target s
      else if f.kind = .command then if fits e f = true then copyCommand p e f target s else answer p (some .nak) s
      else if fits e f = true then consume e f (copied p f target s) else s := by
  unfold copyFrame
  cases hk : f.kind with
  | query | command => rfl
  | state | reply | manage | manageReply => rw [copied_unconfirmed (by simp [hk])]; rfl

theorem copyFrame_unitsKept (p : Port) (e : PointEntry) (f : Frame) (target : PointCode) (s : State) :
    UnitsKept s (copyFrame p e f target s) := by
  rw [copyFrame_eq]
  split
  · exact passFrame_unitsKept ..
  · split
    · rename_i hk
      split
      · rw [copyCommand_eq hk]
        split
        · exact copied_unitsKept ..
        · exact (copied_unitsKept ..).trans (consumeCommand_unitsKept ..)
      · exact answer_unitsKept ..
    · split
      · exact (copied_unitsKept ..).trans (consume_unitsKept ..)
      · exact .refl s

theorem listedFrame_unitsKept (p : Port) (e : PointEntry) (f : Frame) (s : State) : UnitsKept s (listedFrame p e f s) := by
  unfold listedFrame
  cases e.disposition with
  | pass => exact passFrame_unitsKept ..
  | take => exact takeFrame_unitsKept ..
  | copy => exact copyFrame_unitsKept ..
  | block =>
    unfold blockFrame
    dsimp only
    split <;> [exact answer_unitsKept ..; exact .refl s]

theorem unlistedFrame_unitsKept (p : Port) (f : Frame) (s : State) : UnitsKept s (unlistedFrame p f s) := by
  unfold unlistedFrame
  split <;> [exact passFrame_unitsKept ..; exact .refl s]

theorem manageReplyFrame_unitsKept (p : Port) (f : Frame) (s : State) : UnitsKept s (manageReplyFrame p f s) := by
  unfold manageReplyFrame
  rw [relayUnconfirmed_eq]
  split
  · exact .refl s
  · split <;> [exact relayedAcross_unitsKept ..; exact .refl s]

theorem pointFrame_unitsKept (p : Port) (f : Frame) (s : State) : UnitsKept s (pointFrame p f s) := by
  unfold pointFrame
  split
  · exact answerQuery_unitsKept ..
  · split
    · exact listedFrame_unitsKept ..
    · exact unlistedFrame_unitsKept ..

/-- R27: only a MANAGE frame reaches the units again. -/
theorem classify_unitsKept {p : Port} {f : Frame} (h : f.kind ≠ .manage) (s : State) : UnitsKept s (classify p f s) := by
  unfold classify
  cases hk : f.kind with
  | manage => exact absurd hk h
  | manageReply => exact manageReplyFrame_unitsKept ..
  | state | command | query | reply => exact pointFrame_unitsKept ..

end Sys2Proof.Machine

open Sys2Proof Sys2Proof.Machine

/-- Settles O29: the units are shown the frame (showFrame_unitsShown); what comes before keeps what their work rests on, what
comes after keeps their work. -/
theorem matchUnitsAreShownTheirFrames : Obligations.MatchUnitsAreShownTheirFrames := by
  intro p s hc
  refine ⟨fun bytes f h => ?_, fun heard q hq => ⟨_, exec_transmissionOutcome hq, ?_⟩⟩
  · have hs : UnitsShown false p f s (arrivedAt p f s) :=
      (showFrame_unitsShown false p f (s := clearPins s) hc).congr rfl rfl rfl rfl rfl
    refine ⟨⟨hs, arrivedAt_shown p f s⟩, fun hk => ?_⟩
    obtain ⟨t, ht, ho, -⟩ := arrival_endsIn h rfl
    exact ⟨t, ht, hs.kept ((classify_unitsKept hk _).trans ho.unitsKept)⟩
  · have hk : Keeps False False s (outcomeStart p q s) := (clearPins_keeps s).trans (removeFrame_keeps ..)
    have hw := ownerOutcome_owner p q (outcomeOf q.frame.kind heard) (outcomeStart p q s)
    have hcw := (hk.trans (ownerOutcome_keeps p q (outcomeOf q.frame.kind heard) _)).counts hc
    have hs := showFrame_unitsShown true p q.frame hcw
    refine UnitsShown.kept (hs.congr ?_ ?_ ?_ ?_ ?_) (settle_offered _).unitsKept
    all_goals
      rw [hw]
      simp [outcomeStart, removeFrame]
end

section
/-! SUPPORT. An outbound entry and the outcome of its frame (R164, R165). -/

namespace Sys2Proof.Machine

theorem OutEntry.index_outcome (e : OutEntry) (t : Nat) (o : TxOutcome) : (e.outcome t o).index = e.index :=
  show (e.outcome t o).restart.index = e.restart.index from congrArg OutEntry.index (e.restart_outcome t o)

/-! ### The entry itself (R164, R165) -/

/-- R165: no valid answer. -/
theorem OutEntry.unheard_eq (e : OutEntry) (t : Nat) : e.unheard t =
    if e.retries < 3 then
      { e with retries := e.retries + 1, exposed := true, busies := 0, state := .backoff, timer := some (t + 2) }
    else
      { e with retries := e.retries + 1, exposed := true, busies := 0, state := .unanswered, timer := some (t + 60) } := by
  unfold OutEntry.unheard
  exact if_congr (by omega) rfl rfl

/-- R165: BUSY. -/
theorem OutEntry.busied_eq (e : OutEntry) (t : Nat) : e.busied t =
    if e.busies < 9 then { e with busies := e.busies + 1, state := .backoff, timer := some (t + 2) }
    else { e with busies := e.busies + 1, state := .unanswered, timer := some (t + 60) } := by
  unfold OutEntry.busied
  exact if_congr (by omega) rfl rfl

/-- R164: ACK of a sent value. -/
theorem OutEntry.acked_eq {e : OutEntry} {v : OutValue} (h : e.sent = some v) (t : Nat) : e.acked t =
    if ∃ c ∈ e.computed, beyondDeadband e.function e.deadband c v = true then
      { e.flip with confirmed := some v, next := none, state := .pending, timer := none }
    else
      { e.flip with
        confirmed := some v, next := none, state := .confirmed
        timer := if e.refresh = 0 then none else some (t + e.refresh) } := by
  unfold OutEntry.acked
  rw [h]
  cases hc : e.computed with
  | none => simp [OutEntry.refreshTimer]
  | some c =>
    simp only [OutEntry.beyond]
    exact if_congr (by simp) rfl rfl

/-- R164: NAK of a sent value. -/
theorem OutEntry.naked_eq {e : OutEntry} {v : OutValue} (h : e.sent = some v) : e.naked =
    { e.flip with
      next := none, timer := none
      state := if ∃ n ∈ e.next, n.quantity ≠ v.quantity then .pending else .refused } := by
  have hd : e.nextDiffers = true ↔ ∃ n ∈ e.next, n.quantity ≠ v.quantity := by
    unfold OutEntry.nextDiffers
    rw [h]
    cases e.next <;> simp
  unfold OutEntry.naked
  simp only [hd]

/-- R164: what ACK and NAK do alike to an entry. -/
theorem OutEntry.answered {e : OutEntry} {t : Nat} {o : TxOutcome} (h : o = .ack ∨ o = .nak) :
    (e.outcome t o).toggle = !e.toggle ∧ (e.outcome t o).exposed = false ∧ (e.outcome t o).retries = 0 ∧
      (e.outcome t o).busies = 0 ∧ (e.outcome t o).next = none ∧ (e.outcome t o).computed = e.computed := by
  rcases h with rfl | rfl
  · unfold OutEntry.outcome OutEntry.acked
    cases hc : e.computed with
    | none => exact ⟨rfl, rfl, rfl, rfl, rfl, hc⟩
    | some c =>
      dsimp only
      split
      · exact ⟨rfl, rfl, rfl, rfl, rfl, hc⟩
      · exact ⟨rfl, rfl, rfl, rfl, rfl, hc⟩
  · exact ⟨rfl, rfl, rfl, rfl, rfl, rfl⟩

/-! ### The outcome in the state -/

/-- R164, R165: the outcome of a frame at its entry. -/
theorem outputOutcome_entry {i : OutIndex} {e : OutEntry} {s : State} (h : findOutput s i = some e) (o : TxOutcome) :
    findOutput (outputOutcome i o s) i = some (e.outcome s.elapsed o) ∧
      (∀ j, j ≠ i → findOutput (outputOutcome i o s) j = findOutput s j) ∧
      (∀ p, (outputOutcome i o s).port p = s.port p) ∧
      ∀ k, e.outcomeNotice o = some k → ((outputOutcome i o s).notice k).flag = true ∧
        ((outputOutcome i o s).notice k).detail = some (e.code.setWidth 16 ++ (0 : BitVec 8)) := by
  have hi := findOutput_updateOutput_self i (fun e => e.outcome s.elapsed o) s fun e => e.index_outcome s.elapsed o
  have hj : ∀ j, j ≠ i → findOutput (updateOutput i (fun e => e.outcome s.elapsed o) s) j = findOutput s j := fun j hj =>
    findOutput_updateOutput_ne _ s (fun e => e.index_outcome s.elapsed o) hj.symm
  rw [h] at hi
  unfold outputOutcome
  simp only [h]
  cases hn : e.outcomeNotice o with
  | none => exact ⟨hi, hj, fun p => by cases p <;> rfl, nofun⟩
  | some k =>
    dsimp only
    have hf : ∀ j u, findOutput (raise k (detail16 e.code.toNat) u) j = findOutput u j := fun j u => by
      rw [findOutput, (raise_shown ..).outputs, findOutput]
    refine ⟨by rw [hf]; exact hi, fun j hne => by rw [hf]; exact hj j hne, fun p => ?_, fun k' hk => ?_⟩
    · rw [(raise_shown ..).port]
      cases p <;> rfl
    · cases hk
      rw [raise_self, detail16_code]
      exact ⟨rfl, rfl⟩

/-- R162: where offers leave an entry: as it was, or admitted from PENDING. -/
theorem Offered.entry {s t : State} (h : Offered s t) {i : OutIndex} {y : OutEntry} (hy : findOutput s i = some y) :
    ∃ x, findOutput t i = some x ∧ (x = y ∨ y.state = .pending ∧ ∃ n, x = y.admitted n) := by
  rcases h.outputs i with ht | ⟨e, n, he, hel, ht⟩
  · exact ⟨y, ht.trans hy, .inl rfl⟩
  · rw [hy] at he
    cases he
    simp only [Machine.eligible, Bool.and_eq_true, beq_iff_eq] at hel
    exact ⟨_, ht, .inr ⟨hel.1.1.1, n, rfl⟩⟩

end Sys2Proof.Machine

open Sys2Proof Sys2Proof.Machine

/-- Settles O33: the outcome at the entry (outputOutcome_entry, by OutEntry.unheard_eq, busied_eq, acked_eq, naked_eq), then
at most an admission (Offered.entry). -/
theorem entryTakesItsOutcome : Obligations.EntryTakesItsOutcome := by
  intro heard q i e s hq hown hk he
  obtain ⟨hout, hel, -⟩ := outcomeStart_kept .room q s
  have hstart : ∀ j, findOutput (outcomeStart .room q s) j = findOutput s j := fun j => by rw [findOutput, hout, findOutput]
  obtain ⟨hwi, hwj, hwp, hwn⟩ := outputOutcome_entry ((hstart i).trans he) (heardOutcome heard)
  have hw : ownerOutcome .room q (outcomeOf q.frame.kind heard) (outcomeStart .room q s) =
      outputOutcome i (heardOutcome heard) (outcomeStart .room q s) := by
    rw [outcomeOf_command hk, ownerOutcome, hown]
  obtain ⟨hroom, hnot⟩ := outcomeShown_after hw .room
  have hshown : ∀ j, findOutput (outcomeShown .room heard q s) j =
      findOutput (outputOutcome i (heardOutcome heard) (outcomeStart .room q s)) j := fun j => by
    rw [findOutput, outcomeShown, (showFrame_shown ..).outputs, hw, findOutput]
  have ho := settle_offered (outcomeShown .room heard q s)
  obtain ⟨x, hx, hcase⟩ := ho.entry ((hshown i).trans hwi)
  rw [hel] at hcase
  rw [hwp, outcomeStart_port, State.port_room, State.port_room] at hroom
  have hnotice : ∀ k, e.outcomeNotice (heardOutcome heard) = some k → k ≠ .captureOverflow → k ≠ .holdEntered →
      ((settle (outcomeShown .room heard q s)).notice k).flag = true ∧
        ((settle (outcomeShown .room heard q s)).notice k).detail = some (e.code.setWidth 16 ++ (0 : BitVec 8)) :=
    fun k hk hc hh => ⟨(hnot k hc hh).1.trans (hwn k hk).1, (hnot k hc hh).2.trans (hwn k hk).2⟩
  refine ⟨_, x, exec_transmissionOutcome hq, outcome_frame .room heard q s, hx, hroom, fun j y hj hy => ?_, fun hh => ?_,
    fun hh => ?_, fun hh => ?_, fun v hv => ⟨fun hh => ?_, fun hh => ?_⟩⟩
  · obtain ⟨z, hz, hc⟩ := ho.entry (((hshown j).trans (hwj j hj)).trans ((hstart j).trans hy))
    rcases hc with rfl | ⟨-, n, rfl⟩
    · exact .inl hz
    · exact .inr ⟨n, hz⟩
  · rw [hh, OutEntry.outcome, OutEntry.unheard_eq] at hcase
    rw [hh] at hnotice
    split
    · rename_i hr
      rw [if_pos hr] at hcase
      exact hcase.resolve_right fun h => nomatch h.1
    · rename_i hr
      rw [if_neg hr] at hcase
      refine ⟨hcase.resolve_right (fun h => nomatch h.1), hnotice _ ?_ (by decide) (by decide)⟩
      exact if_neg (by omega)
  · rw [hh, OutEntry.outcome, OutEntry.busied_eq] at hcase
    rw [hh] at hnotice
    split
    · rename_i hr
      rw [if_pos hr] at hcase
      exact hcase.resolve_right fun h => nomatch h.1
    · rename_i hr
      rw [if_neg hr] at hcase
      refine ⟨hcase.resolve_right (fun h => nomatch h.1), hnotice _ ?_ (by decide) (by decide)⟩
      exact if_neg (by omega)
  · obtain ⟨h1, h2, h3, h4, h5, h6⟩ := OutEntry.answered (e := e) (t := s.elapsed) hh
    have hr := e.restart_outcome s.elapsed (heardOutcome heard)
    rcases hcase with rfl | ⟨-, n, rfl⟩
    · exact ⟨h1, h2, h3, h4, h5, h6, hr⟩
    · exact ⟨h1, h2, h3, h4, h5, h6, hr⟩
  · rw [hh, OutEntry.outcome, OutEntry.acked_eq hv] at hcase
    split
    · rename_i hb
      rw [if_pos hb] at hcase
      rcases hcase with rfl | ⟨-, n, rfl⟩
      · exact ⟨rfl, .inl rfl⟩
      · exact ⟨rfl, .inr rfl⟩
    · rename_i hb
      rw [if_neg hb] at hcase
      obtain rfl := hcase.resolve_right fun h => nomatch h.1
      exact ⟨rfl, rfl, rfl⟩
  · rw [hh, OutEntry.outcome, OutEntry.naked_eq hv] at hcase
    rw [hh] at hnotice
    obtain ⟨hf, hd⟩ := hnotice .actuatorRefused rfl (by decide) (by decide)
    refine ⟨?_, hf, hd, ?_⟩
    · rcases hcase with rfl | ⟨-, n, rfl⟩ <;> rfl
    · split
      · rename_i hb
        rw [if_pos hb] at hcase
        rcases hcase with rfl | ⟨-, n, rfl⟩
        · exact .inl rfl
        · exact .inr rfl
      · rename_i hb
        rw [if_neg hb] at hcase
        obtain rfl := hcase.resolve_right fun h => nomatch h.1
        rfl
end

section
/-! SUPPORT. A queue that empties: what each withdrawn frame does at its owner (R2, R41, R167, R189), and that a DOWN port takes
no offer. -/

namespace Sys2Proof.Machine

/-! ### Withdrawals (R2) -/

theorem updateOutput_id (i : OutIndex) (s : State) : updateOutput i (fun e => e) s = s := by
  simp [updateOutput]

/-- R168, R189: a drive that ends unheard leaves its entry and the drive toggle. -/
theorem endDrive_unheard {s : State} {d : Drive} (h : s.drive = some d) : endDrive .unheard s =
    { s with drive := none, deferred := s.deferred.map fun (r : DeferredReply) => { r with outcome := some .unheard } } := by
  unfold endDrive
  simp only [h]
  cases outputOfCode s d.frame.target with
  | some e =>
    have hid : updateOutput e.index (fun e => e.driven d.frame.value s.elapsed .unheard) s = s := updateOutput_id e.index s
    simp only [hid]
  | none => rfl

/-- R189: whether a drive has ended between two states, its deferred reply built with NONE, or nothing has touched it. -/
def DriveEnded (s t : State) : Prop :=
  (t.drive = s.drive ∧ t.deferred = s.deferred) ∨
    ((∃ d, s.drive = some d) ∧ t.drive = none ∧
      t.deferred = s.deferred.map fun (r : DeferredReply) => { r with outcome := some .unheard })

theorem DriveEnded.trans {s t u : State} (a : DriveEnded s t) (b : DriveEnded t u) : DriveEnded s u := by
  rcases a with ⟨ha, ha'⟩ | ⟨hd, ha, ha'⟩
  · unfold DriveEnded at *
    rwa [ha, ha'] at b
  · rcases b with ⟨hb, hb'⟩ | ⟨⟨d, hd'⟩, -, -⟩
    · exact .inr ⟨hd, hb.trans ha, hb'.trans ha'⟩
    · rw [ha] at hd'
      cases hd'

theorem endDrive_ended (s : State) : DriveEnded s (endDrive .unheard s) ∧ (endDrive .unheard s).drive = none := by
  cases h : s.drive with
  | none => exact ⟨.inl ⟨by rw [endDrive_none h], by rw [endDrive_none h]⟩, by rw [endDrive_none h, h]⟩
  | some d => exact ⟨.inr ⟨⟨d, h⟩, by rw [endDrive_unheard h], by rw [endDrive_unheard h]⟩, by rw [endDrive_unheard h]⟩

/-- What withdrawn frames can touch. -/
def WithdrawFrame (s t : State) : Prop :=
  t = { s with outputs := t.outputs, notices := t.notices, groups := t.groups, deferred := t.deferred, drive := t.drive }

theorem WithdrawFrame.trans {s t u : State} (a : WithdrawFrame s t) (b : WithdrawFrame t u) : WithdrawFrame s u := by
  unfold WithdrawFrame at *
  rw [b, a]

/-- R2, R167, R189: what the withdrawal of frames does at their owners. -/
structure Withdrawn (l : List Queued) (s t : State) : Prop where
  frame : WithdrawFrame s t
  outputs : ∀ i, findOutput t i = if ∃ q ∈ l, q.owner = .output i then (findOutput s i).map OutEntry.pend else findOutput s i
  flags : ∀ k, (t.notice k).flag = (s.notice k).flag ∧ (t.notice k).detail = (s.notice k).detail
  pending : ∀ k, (s.notice k).pending = true ∨ ((∃ q ∈ l, q.owner = .notice k) ∧ (s.notice k).flag = true) →
    (t.notice k).pending = true
  reports : ∀ z : Zone, (∀ g ∈ s.groups[z], g.reportPending = true) ∨ (∃ q ∈ l, q.owner = .report z) →
    ∀ g ∈ t.groups[z], g.reportPending = true
  drive : DriveEnded s t

theorem Withdrawn.nil (s : State) : Withdrawn [] s s :=
  ⟨rfl, fun i => by simp, fun _ => ⟨rfl, rfl⟩, fun k h => by simpa using h, fun z h => by simpa using h, .inl ⟨rfl, rfl⟩⟩

theorem Withdrawn.trans {l m : List Queued} {s t u : State} (a : Withdrawn l s t) (b : Withdrawn m t u) :
    Withdrawn (l ++ m) s u where
  frame := a.frame.trans b.frame
  outputs i := by
    have hidem : (OutEntry.pend ∘ OutEntry.pend) = OutEntry.pend := rfl
    rw [b.outputs i, a.outputs i]
    simp only [List.mem_append, or_and_right, exists_or]
    by_cases hl : ∃ q ∈ l, q.owner = .output i <;> by_cases hm : ∃ q ∈ m, q.owner = .output i <;>
      simp only [hl, hm, if_true, if_false, true_or, or_true, or_self, Option.map_map, hidem]
  flags k := ⟨(b.flags k).1.trans (a.flags k).1, (b.flags k).2.trans (a.flags k).2⟩
  pending k h := by
    refine b.pending k ?_
    rcases h with h | ⟨⟨q, hq, ho⟩, hf⟩
    · exact .inl (a.pending k (.inl h))
    · rcases List.mem_append.mp hq with hq | hq
      · exact .inl (a.pending k (.inr ⟨⟨q, hq, ho⟩, hf⟩))
      · exact .inr ⟨⟨q, hq, ho⟩, (a.flags k).1.trans hf⟩
  reports z h := by
    refine b.reports z ?_
    rcases h with h | ⟨q, hq, ho⟩
    · exact .inl (a.reports z (.inl h))
    · rcases List.mem_append.mp hq with hq | hq
      · exact .inl (a.reports z (.inr ⟨q, hq, ho⟩))
      · exact .inr ⟨q, hq, ho⟩
  drive := a.drive.trans b.drive

/-- A withdrawn frame whose owner is not one of those that take note leaves the state. -/
theorem Withdrawn.unchanged {q : Queued} {s : State} (ho : ∀ i, q.owner ≠ .output i) (hn : ∀ k, q.owner ≠ .notice k)
    (hr : ∀ z, q.owner ≠ .report z) : Withdrawn [q] s s where
  frame := rfl
  outputs i := by simp [ho i]
  flags _ := ⟨rfl, rfl⟩
  pending k h := by simpa [hn k] using h
  reports z h := by simpa [hr z] using h
  drive := .inl ⟨rfl, rfl⟩

theorem withdrawn_output {q : Queued} {i : OutIndex} (h : q.owner = .output i) (s : State) :
    Withdrawn [q] s (outputWithdrawn i s) where
  frame := rfl
  outputs j := by
    by_cases hj : i = j
    · subst hj
      rw [if_pos ⟨q, by simp, h⟩]
      exact findOutput_updateOutput_self i OutEntry.pend s fun _ => rfl
    · rw [if_neg (by simpa [h] using hj)]
      exact findOutput_updateOutput_ne OutEntry.pend s (fun _ => rfl) hj
  flags _ := ⟨rfl, rfl⟩
  pending k hp := (by simpa [h] using hp : (s.notice k).pending = true)
  reports z hp := by simpa [h, outputWithdrawn, updateOutput] using hp
  drive := .inl ⟨rfl, rfl⟩

theorem withdrawn_notice {q : Queued} {k : NoticeKind} (h : q.owner = .notice k) (s : State) :
    Withdrawn [q] s (remarkNotice k s) := by
  unfold remarkNotice
  split
  · rename_i hf
    refine ⟨rfl, fun i => by simp [h, findOutput], fun j => ?_, fun j hp => ?_, fun z hp => by simpa [h] using hp, .inl ⟨rfl, rfl⟩⟩
    · by_cases hj : k = j
      · subst hj; simp
      · simp [State.notice_withNotice_ne _ _ hj]
    · by_cases hj : k = j
      · subst hj; simp
      · simpa [State.notice_withNotice_ne _ _ hj, h, hj] using hp
  · rename_i hf
    refine ⟨rfl, fun i => by simp [h], fun _ => ⟨rfl, rfl⟩, fun j hp => ?_, fun z hp => by simpa [h] using hp, .inl ⟨rfl, rfl⟩⟩
    rcases hp with hp | ⟨⟨x, hx, ho⟩, hj⟩
    · exact hp
    · simp only [List.mem_singleton] at hx
      subst hx
      rw [h] at ho
      cases ho
      exact absurd hj hf

theorem withdrawn_report {q : Queued} {l : Zone} (h : q.owner = .report l) (s : State) :
    Withdrawn [q] s (remarkReport l s) := by
  unfold remarkReport
  cases hg : s.groups[l] with
  | none =>
    refine ⟨rfl, fun i => by simp [h], fun _ => ⟨rfl, rfl⟩, fun k hp => by simpa [h] using hp, fun z hp g hm => ?_, .inl ⟨rfl, rfl⟩⟩
    rcases hp with hp | ⟨x, hx, ho⟩
    · exact hp g hm
    · simp only [List.mem_singleton] at hx
      subst hx
      rw [h] at ho
      cases ho
      rw [hg] at hm
      cases hm
  | some g =>
    refine ⟨rfl, fun i => by simp [h, findOutput], fun _ => ⟨rfl, rfl⟩, fun k hp => by simpa [h, State.notice] using hp,
      fun z hp x hm => ?_, .inl ⟨rfl, rfl⟩⟩
    by_cases hz : l = z
    · subst hz
      simp only [Fin.getElem_fin, Vector.getElem_set_self, Option.mem_def, Option.some.injEq] at hm
      subst hm
      rfl
    · have hv : l.val ≠ z.val := fun e => hz (Fin.ext e)
      have hm' : x ∈ s.groups[z] := by simpa [Vector.getElem_set_ne _ _ hv] using hm
      rcases hp with hp | ⟨y, hy, ho⟩
      · exact hp x hm'
      · simp only [List.mem_singleton] at hy
        subst hy
        rw [h] at ho
        exact absurd (Owner.report.inj ho) hz

theorem withdrawn_drive {q : Queued} (h : q.owner = .drive) (s : State) : Withdrawn [q] s (endDrive .unheard s) := by
  have hd := (endDrive_ended s).1
  have hu : Withdrawn [q] s s := .unchanged (by simp [h]) (by simp [h]) (by simp [h])
  cases hs : s.drive with
  | none => rw [endDrive_none hs]; exact hu
  | some d =>
    rw [endDrive_unheard hs] at hd ⊢
    exact ⟨rfl, hu.outputs, hu.flags, hu.pending, hu.reports, hd⟩

theorem withdraw_withdrawn (s : State) (q : Queued) : Withdrawn [q] s (withdraw s q) := by
  unfold withdraw
  cases h : q.owner with
  | relay | delivery c n | reply => exact .unchanged (by simp [h]) (by simp [h]) (by simp [h])
  | output i => exact withdrawn_output h s
  | drive => exact withdrawn_drive h s
  | notice k => exact withdrawn_notice h s
  | report l => exact withdrawn_report h s

theorem foldl_withdrawn (l : List Queued) (s : State) : Withdrawn l s (l.foldl withdraw s) := by
  induction l generalizing s with
  | nil => exact .nil s
  | cons q l ih => exact (withdraw_withdrawn s q).trans (ih _)

/-- What an emptied queue can touch. -/
def LostFrame (s t : State) : Prop :=
  t = { s with
    outputs := t.outputs, notices := t.notices, groups := t.groups, deferred := t.deferred, drive := t.drive
    free := t.free }

/-- R2, R41, R167, R189: what a queue that empties does at the owners of its frames. -/
structure QueueLost (l : List Queued) (s t : State) : Prop where
  frame : LostFrame s t
  outputs : ∀ i, findOutput t i = if ∃ q ∈ l, q.owner = .output i then (findOutput s i).map OutEntry.pend else findOutput s i
  undelivered : (∃ q ∈ l, ∃ c n, q.owner = .delivery c n) → (t.notice .relayUndelivered).flag = true ∧
    ∃ q ∈ l, ∃ c n, q.owner = .delivery c n ∧
      (t.notice .relayUndelivered).detail = some (c.setWidth 16 ++ (0 : BitVec 8))
  delivered : (∀ q ∈ l, ∀ c n, q.owner ≠ .delivery c n) →
    (t.notice .relayUndelivered).flag = (s.notice .relayUndelivered).flag ∧
      (t.notice .relayUndelivered).detail = (s.notice .relayUndelivered).detail
  pending : ∀ k, (s.notice k).pending = true ∨ ((∃ q ∈ l, q.owner = .notice k) ∧ (s.notice k).flag = true) →
    (t.notice k).pending = true
  reports : ∀ z : Zone, (∃ q ∈ l, q.owner = .report z) → ∀ g ∈ t.groups[z], g.reportPending = true
  drive : DriveEnded s t

theorem mem_deliveryCodes {l : List Queued} {x : Nat} :
    x ∈ deliveryCodes l ↔ ∃ q ∈ l, ∃ c n, q.owner = .delivery c n ∧ c.toNat = x := by
  unfold deliveryCodes
  rw [List.mem_filterMap]
  refine exists_congr fun q => and_congr_right fun _ => ?_
  cases q.owner <;> simp

theorem withdrawAll_lost (l : List Queued) (s : State) : QueueLost l s (withdrawAll l s) := by
  have h := foldl_withdrawn l s
  unfold withdrawAll
  by_cases hd : deliveryCodes l = []
  · rw [hd]
    have hno : ∀ q ∈ l, ∀ c n, q.owner ≠ .delivery c n := fun q hq c n ho => by
      have := mem_deliveryCodes.mpr ⟨q, hq, c, n, ho, rfl⟩
      rw [hd] at this
      cases this
    refine ⟨?_, h.outputs, fun ⟨q, hq, c, n, ho⟩ => absurd ho (hno q hq c n), fun _ => h.flags _, h.pending,
      fun z hz => h.reports z (.inr hz), h.drive⟩
    show LostFrame s (l.foldl withdraw s)
    unfold LostFrame
    rw [h.frame]
  · obtain ⟨d, hmem, n, heq⟩ := raiseOneOf_eq (k := .relayUndelivered) (ds := (deliveryCodes l).map detail16)
      (by simpa using hd) (l.foldl withdraw s)
    obtain ⟨x, hx, rfl⟩ := List.mem_map.mp hmem
    obtain ⟨q, hq, c, m, ho, rfl⟩ := mem_deliveryCodes.mp hx
    rw [heq, raise_eq, detail16_code]
    generalize hu : l.foldl withdraw s = u at h ⊢
    refine ⟨?_, fun i => ?_, fun _ => ?_, fun hno => absurd ho (hno q hq c m), fun k hk => ?_, fun z hz => ?_, h.drive⟩
    · unfold LostFrame
      rw [h.frame]
      rfl
    · exact h.outputs i
    · rw [State.notice_withNotice_self]
      exact ⟨rfl, q, hq, c, m, ho, rfl⟩
    · have hp := h.pending k hk
      by_cases hr : NoticeKind.relayUndelivered = k
      · subst hr
        rw [State.notice_withNotice_self]
        exact Bool.or_eq_true_iff.mpr (.inl hp)
      · rw [State.notice_withNotice_ne _ _ hr]
        exact hp
    · exact h.reports z (.inr hz)

/-- R188, R189: a drive that still waits ends too. -/
theorem QueueLost.endDrive {l : List Queued} {s t : State} (h : QueueLost l s t) :
    QueueLost l s (endDrive .unheard t) ∧ (endDrive .unheard t).drive = none := by
  obtain ⟨he, hn⟩ := endDrive_ended t
  refine ⟨?_, hn⟩
  have hdrive := h.drive.trans he
  cases hd : t.drive with
  | none => rw [endDrive_none hd]; exact h
  | some d =>
    rw [endDrive_unheard hd] at hdrive ⊢
    refine ⟨?_, h.outputs, h.undelivered, h.delivered, h.pending, h.reports, hdrive⟩
    have hf := h.frame
    unfold LostFrame at hf ⊢
    rw [hf]

/-! ### A DOWN port takes no offer (R10) -/

/-- What was DOWN stays so, with its queue; and what every entry has and an admission leaves, every entry has after the offers. -/
structure OfferKept (s t : State) : Prop where
  down : ∀ p, (s.port p).up = false → (t.port p).up = false ∧ (t.port p).queue = (s.port p).queue
  entries : ∀ P : OutEntry → Prop, (∀ e n, P e → P (e.admitted n)) → (∀ e ∈ s.outputs, P e) → ∀ e ∈ t.outputs, P e

theorem OfferKept.refl (s : State) : OfferKept s s := ⟨fun _ h => ⟨h, rfl⟩, fun _ _ => id⟩

theorem OfferKept.trans {s t u : State} (a : OfferKept s t) (b : OfferKept t u) : OfferKept s u where
  down p h :=
    have ⟨ha, hq⟩ := a.down p h
    have ⟨hb, hq'⟩ := b.down p ha
    ⟨hb, hq'.trans hq⟩
  entries P hP h := b.entries P hP (a.entries P hP h)

theorem OfferKept.of_eq {s t : State} (h : ∀ p, t.port p = s.port p) (ho : t.outputs = s.outputs) : OfferKept s t :=
  ⟨fun p hp => by rw [h]; exact ⟨hp, rfl⟩, fun P _ hs => ho ▸ hs⟩

theorem OfferKept.admitted {p : Port} {s : State} (h : admits p false s = true) (f : Frame) (o : Owner) :
    OfferKept s (s.withPort p ((s.port p).enqueue f o false)) := by
  refine ⟨fun r hr => ?_, fun P _ hs => by simpa using hs⟩
  have hne : r ≠ p := fun he => by
    subst he
    simp [admits, hr] at h
  cases r <;> cases p <;> first | exact absurd rfl hne | exact ⟨hr, rfl⟩

theorem offerDeferred_offerKept (p : Port) (s : State) : OfferKept s (offerDeferred p s) := by
  unfold offerDeferred
  split
  · rename_i d _
    split
    · rename_i o _
      split
      · rcases offer_cases p (replyFrame s d.line d.node d.priority 26 .ok [driveOutcomeCode o]) .reply false s with
          ⟨ha, h⟩ | ⟨-, h⟩ <;> rw [h]
        · exact (OfferKept.admitted ha _ .reply).trans (.of_eq (fun r => by cases r <;> rfl) rfl)
        · exact .refl s
      · exact .refl s
    · exact .refl s
  · exact .refl s

theorem offerNotice_offerKept (s : State) (k : NoticeKind) : OfferKept s (offerNotice s k) := by
  unfold offerNotice
  split
  · rcases offer_cases .trunk (noticeFrame s k) (.notice k) false s with ⟨ha, h⟩ | ⟨-, h⟩ <;> rw [h]
    · exact (OfferKept.admitted ha _ (.notice k)).trans (.of_eq (fun r => by cases r <;> rfl) rfl)
    · exact .refl s
  · exact .refl s

theorem offerReport_offerKept (s : State) (l : Zone) : OfferKept s (offerReport s l) := by
  unfold offerReport
  split
  · rename_i g _
    split
    · rcases offer_cases .trunk (reportFrame s l g) (.report l) false s with ⟨ha, h⟩ | ⟨-, h⟩ <;> rw [h]
      · exact (OfferKept.admitted ha _ (.report l)).trans (.of_eq (fun r => by cases r <;> rfl) rfl)
      · exact .refl s
    · exact .refl s
  · exact .refl s

theorem offerDrive_offerKept (s : State) : OfferKept s (offerDrive s) := by
  unfold offerDrive
  split
  · rename_i d _
    split
    · exact .refl s
    · rcases offer_cases .room d.frame .drive false s with ⟨ha, h⟩ | ⟨-, h⟩ <;> rw [h]
      · exact (OfferKept.admitted ha _ .drive).trans (.of_eq (fun r => by cases r <;> rfl) rfl)
      · exact .refl s
  · exact .refl s

theorem admitOutput_offerKept (s : State) (i : OutIndex) : OfferKept s (admitOutput s i) := by
  unfold admitOutput
  split
  · rename_i e _
    split
    · rcases offer_cases .room (outputFrame s e (e.frameValue s.free)) (.output i) false s with ⟨ha, h⟩ | ⟨-, h⟩ <;> rw [h]
      · refine (OfferKept.admitted ha _ (.output i)).trans ⟨fun r hr => by cases r <;> exact ⟨hr, rfl⟩, fun P hP hs x hx => ?_⟩
        obtain ⟨y, hy, rfl⟩ := List.mem_map.mp hx
        split
        · exact hP _ _ (hs y hy)
        · exact hs y hy
      · exact .refl s
    · exact .refl s
  · exact .refl s

theorem arbiter_offerKept (s : State) : OfferKept s (arbiter s) := foldl_related .refl .trans admitOutput_offerKept _ s

theorem settleTrunk_offerKept (s : State) : OfferKept s (settleTrunk s) :=
  ((offerDeferred_offerKept .trunk s).trans (foldl_related .refl .trans offerNotice_offerKept _ _)).trans
    (foldl_related .refl .trans offerReport_offerKept _ _)

theorem offerOthers_offerKept (s : State) : OfferKept s (offerOthers s) := (offerDeferred_offerKept .room s).trans (offerDrive_offerKept _)

theorem settleRoom_offerKept (s : State) : OfferKept s (settleRoom s) := by
  have hfree : OfferKept s { s with free := s.free + 1 } := .of_eq (fun r => by cases r <;> rfl) rfl
  unfold settleRoom
  split
  · split
    · exact (hfree.trans (arbiter_offerKept _)).trans (offerOthers_offerKept _)
    · exact (hfree.trans (offerOthers_offerKept _)).trans (arbiter_offerKept _)
  · exact (offerOthers_offerKept s).trans (arbiter_offerKept _)

theorem settle_offerKept (s : State) : OfferKept s (settle s) := (settleTrunk_offerKept s).trans (settleRoom_offerKept _)

/-! ### A deferred reply that has a place (R171) -/

/-- R171: a deferred reply built for the trunk port is the first offer, and enters a queue with a place. -/
theorem settle_deferred {s : State} {d : DeferredReply} {o : TxOutcome} (hd : s.deferred = some d) (ho : d.outcome = some o)
    (hp : d.port = .trunk) (ha : admits .trunk false s = true) : (settle s).deferred = none ∧
      ∃ x ∈ (settle s).trunk.queue, x.owner = .reply ∧
        x.frame = replyFrame s d.line d.node d.priority 26 .ok [driveOutcomeCode o] := by
  have hf : offerDeferred .trunk s = { s.withPort .trunk (s.trunk.enqueue
      (replyFrame s d.line d.node d.priority 26 .ok [driveOutcomeCode o]) .reply false) with deferred := none } := by
    unfold offerDeferred
    simp only [hd, ho, hp, if_true, offer_admitted ha]
    rfl
  have he : Emitted (offerDeferred .trunk s) (settle s) :=
    ((offerNotices_emitted _).trans (offerReports_emitted _)).trans (settleRoom_emitted _)
  have hn : (offerDeferred .trunk s).deferred = none := by rw [hf]
  have hq : (offerDeferred .trunk s).trunk = s.trunk.enqueue
      (replyFrame s d.line d.node d.priority 26 .ok [driveOutcomeCode o]) .reply false := by rw [hf]; rfl
  refine ⟨?_, ⟨_, .reply, false, s.trunk.nextOrder, false⟩, he.trunk.mem (hq ▸ mem_enqueue ..), rfl, rfl⟩
  rcases he.deferred with h | h
  · rw [h, hn]
  · exact h

/-- R10, R181, R117: nothing is offered to a trunk port that is DOWN. -/
theorem Emitted.pending_of_down {s t : State} (h : Emitted s t) (hq : t.trunk.queue = []) :
    (∀ k, t.notice k = s.notice k) ∧ ∀ z : Zone, t.groups[z] = s.groups[z] := by
  refine ⟨fun k => ?_, fun z => ?_⟩
  · rcases h.noticeFrames k with heq | ⟨-, -, x, hx, -⟩
    · exact heq
    · rw [hq] at hx
      cases hx
  · rcases h.reportFrames z with heq | ⟨g, -, -, -, x, hx, -⟩
    · exact heq
    · rw [hq] at hx
      cases hx

/-! ### Power is lost (R1, R2) -/

/-- R1: the state in which a port is DOWN with an empty queue and one more reception cut off. -/
def poweredDown (p : Port) (s : State) : State :=
  s.withPort p { s.port p with up := false, queue := [], cuts := (s.port p).cuts + 1 }

theorem powerLoss_eq {p : Port} {s : State} (h : (s.port p).up = true) : powerLoss p s =
    endWaitingDrive p (withdrawAll (s.port p).queue (poweredDown p s)) := by
  unfold powerLoss
  rw [if_pos h]
  cases p <;> rfl

/-- R2: what a loss of power does at the owners. -/
theorem powerLoss_lost {p : Port} {s : State} (h : (s.port p).up = true) :
    QueueLost (s.port p).queue (poweredDown p s) (powerLoss p s) ∧ (p = .room → (powerLoss p s).drive = none) := by
  rw [powerLoss_eq h]
  have hw := withdrawAll_lost (s.port p).queue (poweredDown p s)
  cases p with
  | room => exact ⟨hw.endDrive.1, fun _ => hw.endDrive.2⟩
  | trunk => exact ⟨hw, nofun⟩

theorem LostFrame.port {s t : State} (h : LostFrame s t) (p : Port) : t.port p = s.port p := by
  rw [h]
  cases p <;> rfl

/-- R2: what a loss of power can touch. -/
theorem LostFrame.powerLoss {p : Port} {s w t : State} (h : LostFrame (poweredDown p (clearPins s)) w) (ho : OffersFrame w t) :
    t = { s with room := t.room, trunk := t.trunk, pins := t.pins, outputs := t.outputs, notices := t.notices,
                 groups := t.groups, deferred := t.deferred, drive := t.drive, free := t.free } := by
  unfold LostFrame at h
  unfold OffersFrame at ho
  rw [ho, h]
  cases p <;> rfl

/-- R162: with the room port DOWN no entry is admitted. -/
theorem Offered.entry_of_down {s t : State} (h : Offered s t) (hd : s.room.up = false) (i : OutIndex) :
    findOutput t i = findOutput s i := by
  rcases h.outputs i with heq | ⟨e, n, -, hel, -⟩
  · exact heq
  · simp [Machine.eligible, hd] at hel

end Sys2Proof.Machine

open Sys2Proof Sys2Proof.Machine

/-- Settles O18: the withdrawals at their owners (powerLoss_lost), and offers that the DOWN port no longer takes. -/
theorem linePowerLossWithdrawsTheQueue : Obligations.LinePowerLossWithdrawsTheQueue := by
  intro p s
  have hx : exec (.linePowerLoss p) s = event (powerLoss p) s := rfl
  refine ⟨fun hu => ?_, fun hu => ?_⟩
  · obtain ⟨hl, hdrive⟩ := powerLoss_lost (p := p) (s := clearPins s) (by simpa using hu)
    rw [clearPins_port] at hl
    rw [event_eq] at hx
    generalize powerLoss p (clearPins s) = w at hl hdrive hx
    have he := settle_emitted w
    have hdown := settle_offerKept w
    have hwp : w.port p = { s.port p with up := false, queue := [], cuts := (s.port p).cuts + 1 } := by
      rw [hl.frame.port]
      cases p <;> rfl
    have hwo : w.port (otherPort p) = s.port (otherPort p) := by
      rw [hl.frame.port]
      cases p <;> rfl
    obtain ⟨hup, hq⟩ := hdown.down p (by rw [hwp])
    obtain ⟨hce, hrd⟩ := he.frame.counts p
    rw [hwp] at hq hce hrd
    have hown := he.toOffered.port (otherPort p)
    have hupo := he.frame.up (otherPort p)
    rw [hwo] at hown hupo
    have hstart : ∀ k, (poweredDown p (clearPins s)).notice k = s.notice k := fun k => by cases p <;> rfl
    have hentry : ∀ i, findOutput (poweredDown p (clearPins s)) i = findOutput s i := fun i => by cases p <;> rfl
    refine ⟨settle w, hx, hup, hq, hce, hrd, hupo, hown, fun q hqm => ⟨fun c n ho => ?_, fun i e hp ho hi => ?_,
      fun k hp ho hf => ?_, fun l g hp ho hg => ?_⟩, fun hp => ?_, ?_⟩
    · rw [(he.notices _).1]
      exact (hl.undelivered ⟨q, hqm, c, n, ho⟩).1
    · subst hp
      rw [he.toOffered.entry_of_down (by rw [← State.port_room, hwp]), hl.outputs, if_pos ⟨q, hqm, ho⟩, hentry, hi]
      rfl
    · subst hp
      rw [State.port_trunk] at hq
      rw [(he.pending_of_down hq).1]
      exact hl.pending k (.inr ⟨⟨q, hqm, ho⟩, by rw [hstart]; exact hf⟩)
    · subst hp
      rw [State.port_trunk] at hq
      rw [(he.pending_of_down hq).2] at hg
      exact hl.reports l ⟨q, hqm, ho⟩ g hg
    · subst hp
      have hdn := hdrive rfl
      refine ⟨?_, fun d r hd hr => ?_⟩
      · rcases he.driveQueued with h | ⟨d, hd, -⟩
        · rw [h, hdn]
        · rw [hdn] at hd
          cases hd
      have hdef : w.deferred = some { r with outcome := some .unheard } := by
        rcases hl.drive with ⟨h, -⟩ | ⟨-, -, h⟩
        · rw [hdn] at h
          exact absurd (h.trans hd) (by simp)
        · rw [h]
          exact congrArg (Option.map fun (r : DeferredReply) => { r with outcome := some TxOutcome.unheard }) hr
      have hframe : replyFrame w r.line r.node r.priority 26 .ok [driveOutcomeCode .unheard] =
          replyFields ⟨.trunk, r.line, r.node, r.priority, false, 0, 0⟩ 26 .ok [3] s := by
        rw [replyFrame, ownFrame, hl.frame]
        rfl
      refine ⟨fun hp => ?_, fun hp => ⟨?_, fun htu hlen => ?_⟩⟩
      · rcases he.replyFrames with h | ⟨d', o, hd', -, -, x, hx, -⟩
        · rw [h, hdef]
        · rw [hdef] at hd'
          cases hd'
          simp only [hp, State.port_room] at hx
          rw [State.port_room] at hq
          rw [hq] at hx
          cases hx
      · rcases he.deferred with h | h
        · exact .inr (h.trans hdef)
        · exact .inl h
      · rw [← hframe]
        refine settle_deferred (d := { r with outcome := some .unheard }) hdef rfl hp ?_
        have ht : w.trunk = s.trunk := hwo
        simpa [admits, hasRoom, ht, htu, capacity, Config.trunkCapacity] using hlen
    · exact hl.frame.powerLoss he.frame
  · have := endsIn_event (c := .linePowerLoss p) (f := powerLoss p) (s := s) rfl
    rwa [powerLoss, if_neg (by simp [hu])] at this
end

section
/-! SUPPORT. Frames under TAKE and COPY (R30, R31, R33, R34, R39), and what a consumed one leaves. -/

namespace Sys2Proof.Machine

/-! ### What stands when a frame is consumed (R31, R33, R34) -/

/-- R33: what a frame under TAKE has done before it is consumed: a COMMAND is answered ACK. -/
def taken (p : Port) (f : Frame) (s : State) : State := if f.kind = .command then answer p (some .ack) s else s

/-- R31: a COMMAND that is consumed is its entry's last one. -/
def recorded (e : PointEntry) (f : Frame) (s : State) : State :=
  if f.kind = .command then
    updatePoint e.code (fun e => { e with lastCommand := some ⟨f.originLine, f.originNode, f.toggle⟩ }) s
  else s

theorem consumeCommand_repeat {e : PointEntry} {f : Frame} (h : e.lastCommand = some ⟨f.originLine, f.originNode, f.toggle⟩)
    (s : State) : consumeCommand e f s = s := by
  rw [consumeCommand, if_pos (by simp [repeatsLast, h])]

theorem consumeCommand_new {e : PointEntry} {f : Frame} (hk : f.kind = .command)
    (h : e.lastCommand ≠ some ⟨f.originLine, f.originNode, f.toggle⟩) (s : State) :
    consumeCommand e f s = consume e f (recorded e f s) := by
  rw [consumeCommand, if_neg (by simpa [repeatsLast] using h), recorded, if_pos hk]

theorem takeFrame_eq (p : Port) (e : PointEntry) (f : Frame) (s : State) : takeFrame p e f s =
    if f.kind = .query then s
    else if f.kind = .command then if fits e f = true then consumeCommand e f (taken p f s) else answer p (some .nak) s
    else if fits e f = true then consume e f s else s := by
  unfold takeFrame taken
  cases hk : f.kind <;> rfl

/-- R29: whether a frame under a disposition crosses to the other line. -/
abbrev crosses (p : Port) (e : PointEntry) (f : Frame) (s : State) : Prop :=
  e.disposition = .copy ∧ f.hop ≠ 0 ∧ (s.port (otherPort p)).up = true

theorem relayPossible_of_crosses {p : Port} {e : PointEntry} {f : Frame} {s : State} (hd : e.disposition = .copy) :
    relayPossible p f s = true ↔ crosses p e f s := by
  simp [relayPossible, crosses, hd]

/-- R33, R34: what stands when a frame under TAKE or COPY is consumed. -/
def beforeConsumption (p : Port) (e : PointEntry) (f : Frame) (s : State) : State :=
  if crosses p e f s then
    relayedAcross p f (e.relayCode.getD f.target) (if f.kind = .command then .delivery f.target 0 else .relay)
      (f.kind == .command) s
  else if f.kind = .command then answer p (some .ack) s else s

theorem beforeConsumption_take {p : Port} {e : PointEntry} {f : Frame} {s : State} (hd : e.disposition = .take) :
    beforeConsumption p e f s = taken p f s := by
  rw [beforeConsumption, if_neg (by simp [crosses, hd]), taken]

theorem beforeConsumption_copy {p : Port} {e : PointEntry} {f : Frame} {s : State} (hd : e.disposition = .copy) :
    beforeConsumption p e f s = copied p f (e.relayCode.getD f.target) s := by
  unfold beforeConsumption copied
  exact if_congr (relayPossible_of_crosses hd).symm rfl rfl

theorem listedFrame_take {p : Port} {e : PointEntry} (h : e.disposition = .take) (f : Frame) (s : State) :
    listedFrame p e f s = takeFrame p e f s := by rw [listedFrame, h]

theorem listedFrame_copy {p : Port} {e : PointEntry} (h : e.disposition = .copy) (f : Frame) (s : State) :
    listedFrame p e f s = copyFrame p e f (e.relayCode.getD f.target) s := by rw [listedFrame, h]

/-- R33, R34: a QUERY under TAKE or COPY. -/
theorem listedFrame_query {p : Port} {e : PointEntry} {f : Frame} {s : State}
    (hd : e.disposition = .take ∨ e.disposition = .copy) (hk : f.kind = .query) :
    listedFrame p e f s = beforeConsumption p e f s := by
  have hc : f.kind ≠ .command := by simp [hk]
  rcases hd with hd | hd
  · rw [listedFrame_take hd, beforeConsumption_take hd, taken, if_neg hc]
    exact (takeFrame_eq ..).trans (if_pos hk)
  · rw [listedFrame_copy hd, beforeConsumption_copy hd, ← copied_unconfirmed hc, relayUnconfirmed_eq]
    refine (copyFrame_eq ..).trans ((if_pos hk).trans ?_)
    rw [passFrame_eq, if_neg hc, beq_eq_false_iff_ne.mpr hc]

/-- R30: a length that does not fit: NAK to a COMMAND, nothing else for another kind. -/
theorem listedFrame_unfit {p : Port} {e : PointEntry} {f : Frame} {s : State}
    (hd : e.disposition = .take ∨ e.disposition = .copy) (hq : f.kind ≠ .query) (hf : fits e f = false) :
    listedFrame p e f s = if f.kind = .command then answer p (some .nak) s else s := by
  have hff : ¬fits e f = true := by simp [hf]
  rcases hd with hd | hd
  · rw [listedFrame_take hd]
    refine (takeFrame_eq ..).trans ?_
    rw [if_neg hq, if_neg hff, if_neg hff]
  · rw [listedFrame_copy hd]
    refine (copyFrame_eq ..).trans ?_
    rw [if_neg hq, if_neg hff, if_neg hff]

/-- R31, R34: a COMMAND that fits: turned away where its copy has no relay room, else consumed where it is new. -/
theorem listedFrame_command {p : Port} {e : PointEntry} {f : Frame} {s : State}
    (hd : e.disposition = .take ∨ e.disposition = .copy) (hk : f.kind = .command) (hf : fits e f = true) :
    listedFrame p e f s =
      if crosses p e f s ∧ admits (otherPort p) true s = false then beforeConsumption p e f s
      else consumeCommand e f (beforeConsumption p e f s) := by
  have hq : f.kind ≠ .query := by simp [hk]
  rcases hd with hd | hd
  · rw [beforeConsumption_take hd, if_neg (by simp [crosses, hd]), listedFrame_take hd]
    refine (takeFrame_eq ..).trans ?_
    rw [if_neg hq, if_pos hk, if_pos hf]
  · rw [beforeConsumption_copy hd, listedFrame_copy hd]
    refine (copyFrame_eq ..).trans ?_
    rw [if_neg hq, if_pos hk, if_pos hf, copyCommand_eq hk]
    exact if_congr (and_congr_left' (relayPossible_of_crosses hd)) rfl rfl

/-- R33, R34: a STATE or REPLY that fits is consumed. -/
theorem listedFrame_unconfirmed {p : Port} {e : PointEntry} {f : Frame} {s : State}
    (hd : e.disposition = .take ∨ e.disposition = .copy) (hq : f.kind ≠ .query) (hk : f.kind ≠ .command)
    (hf : fits e f = true) : listedFrame p e f s = consume e f (beforeConsumption p e f s) := by
  rcases hd with hd | hd
  · rw [beforeConsumption_take hd, taken, if_neg hk, listedFrame_take hd]
    refine (takeFrame_eq ..).trans ?_
    rw [if_neg hq, if_neg hk, if_pos hf]
  · rw [beforeConsumption_copy hd, listedFrame_copy hd]
    refine (copyFrame_eq ..).trans ?_
    rw [if_neg hq, if_neg hk, if_pos hf]

/-! ### What a relay and an answer leave (R29) -/

/-- What stands before the consumption keeps the tables and the second. -/
theorem relayedAcross_points (p : Port) (f : Frame) (target : PointCode) (owner : Owner) (confirmed : Bool) (s : State) :
    (relayedAcross p f target owner confirmed s).points = s.points ∧
      (relayedAcross p f target owner confirmed s).elapsed = s.elapsed := by
  unfold relayedAcross
  dsimp only
  split
  · exact ⟨rfl, rfl⟩
  · split
    · split <;> simp
    · split <;> simp

theorem beforeConsumption_points (p : Port) (e : PointEntry) (f : Frame) (s : State) :
    (beforeConsumption p e f s).points = s.points ∧ (beforeConsumption p e f s).elapsed = s.elapsed := by
  unfold beforeConsumption
  split
  · exact relayedAcross_points ..
  · split
    · simp
    · exact ⟨rfl, rfl⟩

/-! ### The consumption (R39, R48) -/

theorem OffersFrame.points {s t : State} (h : OffersFrame s t) : t.points = s.points := by rw [h]
theorem RoomEvent.points {s t : State} (h : RoomEvent s t) : t.points = s.points := by rw [h.frame]
theorem RoomEvent.trunk {s t : State} (h : RoomEvent s t) : t.trunk = s.trunk := by rw [h.frame]

/-- R48: the entry of a consumed frame. -/
def PointEntry.consumed (e : PointEntry) (r : Role) (f : Frame) (t : Nat) : PointEntry :=
  if f.kind = .command then ({ e with lastCommand := some ⟨f.originLine, f.originNode, f.toggle⟩ } : PointEntry).arrive r f.value t
  else e.arrive r f.value t

/-- R48: what an arrival makes of its entry. -/
theorem PointEntry.arrive_fields (e : PointEntry) (r : Role) (b : List Byte) (t : Nat) :
    (e.arrive r b t).supervision = .live ∧ (e.arrive r b t).lastArrival = some t ∧
      (e.arrive r b t).deadline = (if e.silenceLimit = 0 then none else some (t + e.silenceLimit)) ∧
      (e.arrive r b t).lastCommand = e.lastCommand := by
  unfold PointEntry.arrive
  dsimp only
  split <;> exact ⟨rfl, rfl, rfl, rfl⟩

theorem PointEntry.consumed_fields (e : PointEntry) (r : Role) (f : Frame) (t : Nat) :
    (e.consumed r f t).fresh = e.fresh ∧ (e.consumed r f t).supervision = .live ∧
      (e.consumed r f t).lastArrival = some t ∧
      (e.consumed r f t).deadline = (if e.silenceLimit = 0 then none else some (t + e.silenceLimit)) ∧
      (e.consumed r f t).lastCommand =
        if f.kind = .command then some ⟨f.originLine, f.originNode, f.toggle⟩ else e.lastCommand := by
  unfold PointEntry.consumed
  split
  · obtain ⟨h1, h2, h3, h4⟩ :=
      ({ e with lastCommand := some ⟨f.originLine, f.originNode, f.toggle⟩ } : PointEntry).arrive_fields r f.value t
    exact ⟨PointEntry.fresh_arrive _ _ _ _, h1, h2, h3, h4⟩
  · obtain ⟨h1, h2, h3, h4⟩ := e.arrive_fields r f.value t
    exact ⟨PointEntry.fresh_arrive _ _ _ _, h1, h2, h3, h4⟩

theorem PointEntry.code_arrive (e : PointEntry) (r : Role) (b : List Byte) (t : Nat) : (e.arrive r b t).code = e.code :=
  show (e.arrive r b t).fresh.code = e.fresh.code from congrArg PointEntry.code (e.fresh_arrive r b t)

theorem consume_event {e : PointEntry} {r : Role} (hr : e.role = some r) (f : Frame) (s : State) :
    RoomEvent (updatePoint e.code (fun e => e.arrive r f.value s.elapsed) s) (consume e f s) := by
  unfold consume
  rw [hr]
  exact pointArrival_event ..

/-- R48: the point table after a consumption. -/
theorem findPoint_consume {e : PointEntry} {r : Role} (hr : e.role = some r) (f : Frame) {s : State} {c : PointCode} :
    findPoint (consume e f (recorded e f s)) c =
      (findPoint s c).map fun x => if x.code = e.code then x.consumed r f s.elapsed else x := by
  have he := consume_event hr f (recorded e f s)
  have hp : (consume e f (recorded e f s)).points =
      (updatePoint e.code (fun x => x.arrive r f.value (recorded e f s).elapsed) (recorded e f s)).points := he.points
  have hel : (recorded e f s).elapsed = s.elapsed := by unfold recorded; split <;> rfl
  rw [findPoint, hp, ← findPoint, findPoint_updatePoint _ _ _ (fun x => x.code_arrive ..), hel]
  unfold recorded PointEntry.consumed
  split
  · rw [findPoint_updatePoint e.code c (fun x => { x with lastCommand := some ⟨f.originLine, f.originNode, f.toggle⟩ })
      (fun _ => rfl), Option.map_map]
    refine congrArg (fun g => Option.map g (findPoint s c)) (funext fun x => ?_)
    simp only [Function.comp_apply]
    by_cases hx : x.code = e.code <;> simp [hx]
  · rfl

/-! ### What follows in the room -/

theorem ConsumedFrame.trans {s t u : State} (a : ConsumedFrame s t) (b : ConsumedFrame t u) : ConsumedFrame s u := by
  unfold ConsumedFrame at *
  rw [b, a]

theorem RoomEvent.consumedFrame {s t : State} (h : RoomEvent s t) : ConsumedFrame s t := by
  unfold ConsumedFrame
  rw [h.frame]

theorem OffersFrame.consumedFrame {s t : State} (h : OffersFrame s t) : ConsumedFrame s t := by
  unfold OffersFrame at h
  unfold ConsumedFrame
  rw [h]

/-- R10: frames whose values changed in place are as many relayed ones. -/
theorem relayedCount_of_envelope {l m : List Queued} (h : m.map Queued.envelope = l.map Queued.envelope) :
    relayedCount m = relayedCount l := by
  have hc : ∀ l : List Queued, relayedCount (l.map Queued.envelope) = relayedCount l := fun l => by
    simp only [relayedCount, List.filter_map, List.length_map]
    rfl
  rw [← hc m, h, hc]

/-- R10: own frames of the device are no relayed ones. -/
theorem OwnAppended.relayedCount {q r : LinePort} (h : OwnAppended q r) : relayedCount r.queue = relayedCount q.queue := by
  obtain ⟨fs, hq, hfs⟩ := h
  have : Machine.relayedCount fs = 0 := by
    rw [Machine.relayedCount, List.length_eq_zero_iff, List.filter_eq_nil_iff]
    exact fun x hx => by simp [(hfs x hx).1]
  rw [hq, relayedCount_append, this, Nat.add_zero]

/-- R39, R48: what a consumption and the offers after it leave of the ports and of all else. -/
theorem consume_after {e : PointEntry} {r : Role} (hr : e.role = some r) (f : Frame) (s : State) :
    relayedCount (settle (consume e f (recorded e f s))).room.queue = relayedCount s.room.queue ∧
      OwnAppended s.trunk (settle (consume e f (recorded e f s))).trunk ∧
      ConsumedFrame s (settle (consume e f (recorded e f s))) := by
  have he := consume_event hr f (recorded e f s)
  have ho := settle_offered (consume e f (recorded e f s))
  have hrec : ConsumedFrame s (recorded e f s) ∧ (recorded e f s).room = s.room ∧ (recorded e f s).trunk = s.trunk := by
    unfold recorded
    split <;> exact ⟨rfl, rfl, rfl⟩
  obtain ⟨hc, hroom, htrunk⟩ := hrec
  have hu : ConsumedFrame (recorded e f s)
      (updatePoint e.code (fun x => x.arrive r f.value (recorded e f s).elapsed) (recorded e f s)) := rfl
  refine ⟨?_, ?_, (hc.trans (hu.trans he.consumedFrame)).trans ho.frame.consumedFrame⟩
  · rw [ho.room.relayedCount, ← hroom]
    exact relayedCount_of_envelope he.queue
  · have ht : (consume e f (recorded e f s)).trunk = (recorded e f s).trunk := he.trunk
    rw [← htrunk, ← ht]
    exact ho.trunk

end Sys2Proof.Machine

open Sys2Proof Sys2Proof.Machine

/-- Settles O22: what stands before the consumption, by the frame's kind (listedFrame_query, listedFrame_unfit,
listedFrame_command, listedFrame_unconfirmed), and the consumption (findPoint_consume, consume_after). -/
theorem takeAndCopyFramesAreConsumed : Obligations.TakeAndCopyFramesAreConsumed := by
  intro p bytes f e s h hl hd hrole arrival u crossing w
  have hcl : classify p f u = listedFrame p e f u := classify_listed (listed_arrivedAt hl)
  have hport : ∀ r, u.port r = s.port r := fun r => arrivedAt_port p r f s
  have hcross : crosses p e f u ↔ crossing := by simp only [crosses, hport, crossing]
  have hadm : admits (otherPort p) true u = admits (otherPort p) true s := by simp only [admits, hport]
  have hw : beforeConsumption p e f u = w := if_congr hcross rfl rfl
  obtain ⟨-, -, hfind, -⟩ := hl
  have hcode : e.code = f.target := by simpa using List.find?_some hfind
  refine ⟨fun hk => arrival_endsIn h ?_, fun hk hf => arrival_endsIn h ?_, fun hk hf => arrival_endsIn h ?_,
    fun hk hf hcase => arrival_endsIn h ?_, fun r hc => ?_⟩
  · rw [hcl, listedFrame_query hd hk, hw]
  · rw [hcl, listedFrame_unfit hd (by simp [hk]) hf, if_pos hk]
  · have hq : f.kind ≠ .query ∧ f.kind ≠ .command := by rcases hk with hk | hk <;> simp [hk]
    rw [hcl, listedFrame_unfit hd hq.1 hf, if_neg hq.2]
  · rw [hcl, listedFrame_command hd hk hf, hw, hadm]
    rcases hcase with hcase | hcase
    · rw [if_pos ⟨hcross.mpr hcase.1, hcase.2⟩]
    · rw [consumeCommand_repeat hcase, ite_self]
  · obtain ⟨-, -, -, hr, hfit, hq, hcmd⟩ := hc
    have hff : fits e f = true := by
      unfold fits
      rw [hr]
      exact hfit
    have hconsumed : classify p f u = consume e f (recorded e f w) := by
      by_cases hk : f.kind = .command
      · obtain ⟨hnew, hroom⟩ := hcmd hk
        rw [hcl, listedFrame_command hd hk hff, hw, hadm, if_neg, consumeCommand_new hk hnew]
        rintro ⟨hx, ha⟩
        obtain ⟨hcopy, hhop, hup⟩ := hcross.mp hx
        exact hroom ⟨hcopy, hhop, hup, ha⟩
      · rw [hcl, listedFrame_unconfirmed hd hq hk hff, hw, recorded, if_neg hk]
    have hx : exec arrival s = .next (settle (consume e f (recorded e f w))) := by
      have := frameArrives_good (s := clearPins s) ⟨by simpa [receiving_clearPins] using h.1, h.2⟩
      rw [clearPins_port] at this
      refine (event_eq (frameArrives p bytes (s.port p).cuts) s).trans ?_
      rw [this, ← hconsumed]
      rfl
    have ho := settle_offered (consume e f (recorded e f w))
    have hpt : ∀ c, findPoint (settle (consume e f (recorded e f w))) c =
        (findPoint s c).map fun x => if x.code = e.code then x.consumed r f s.elapsed else x := fun c => by
      obtain ⟨hwp, hwe⟩ := beforeConsumption_points p e f u
      rw [hw] at hwp hwe
      have hs : findPoint w c = findPoint s c := by rw [findPoint, hwp, ← findPoint, findPoint_arrivedAt]
      have hfp : findPoint (settle (consume e f (recorded e f w))) c = findPoint (consume e f (recorded e f w)) c := by
        rw [findPoint, ho.frame.points, findPoint]
      rw [hfp, findPoint_consume hr, hs, hwe, arrivedAt_elapsed]
    obtain ⟨h1, h2, h3, h4, h5⟩ := e.consumed_fields r f s.elapsed
    obtain ⟨hcount, htrunk, hframe⟩ := consume_after hr f w
    refine ⟨_, e.consumed r f s.elapsed, hx, ?_, h1, h2, h3, h4, h5, fun c hc => ?_, hcount, htrunk, hframe⟩
    · rw [hpt, hfind]
      simp
    · rw [hpt]
      cases hfc : findPoint s c with
      | none => rfl
      | some x =>
        have hxc : x.code = c := by simpa using List.find?_some hfc
        simp [hxc, hcode, hc]
end

section
/-! SUPPORT. The room reset (R16, R51, R57, R167, R179): the state it leaves, before its reply and the offers. -/

namespace Sys2Proof.Machine

/-! ### Entries and points -/

/-- R167: what a room reset leaves of an entry, and what then arrives at it keeps. -/
def OutEntry.cleared (e : OutEntry) : Prop :=
  e.toggle = false ∧ e.exposed = false ∧ e.confirmed = none ∧ e.next = none ∧ e.retries = 0 ∧ e.busies = 0 ∧ e.timer = none

theorem OutEntry.cleared_roomReset (e : OutEntry) : e.roomReset.cleared ∧ (e.roomReset.state = .idle ∨ e.roomReset.state = .pending) := by
  refine ⟨⟨rfl, rfl, rfl, rfl, rfl, rfl, rfl⟩, ?_⟩
  unfold OutEntry.roomReset
  cases e.computed <;> simp

/-- R161: a value handed to an entry just reset. -/
theorem OutEntry.cleared_take {e : OutEntry} (h : e.cleared ∧ (e.state = .idle ∨ e.state = .pending)) (w : Bool) (v : OutValue) :
    (e.take w v).cleared ∧ ((e.take w v).state = .idle ∨ (e.take w v).state = .pending) := by
  obtain ⟨⟨h1, h2, h3, h4, h5, h6, h7⟩, hs⟩ := h
  rw [OutEntry.take_eq]
  rcases hs with hs | hs <;> rw [hs]
  · exact ⟨⟨h1, h2, h3, h4, h5, h6, rfl⟩, .inr rfl⟩
  · exact ⟨⟨h1, h2, h3, h4, h5, h6, h7⟩, .inr rfl⟩

/-- R49: the deadline of an entry returned to AWAITING: started in RUN where it has a limit. -/
theorem PointEntry.resetDeadline_eq {e : PointEntry} (hs : e.supervision = .awaiting) (hd : e.deadline = none) (hold : Bool)
    (t : Nat) : e.resetDeadline hold t =
      { e with deadline := if hold || e.silenceLimit == 0 then none else some (t + e.silenceLimit) } := by
  have hself : e = { e with deadline := none } := by rw [← hd]
  unfold PointEntry.resetDeadline PointEntry.startDeadline
  cases hold with
  | true => exact hself
  | false =>
    by_cases h : e.silenceLimit = 0
    · simpa [h] using hself
    · simp [h, hs, hd]

/-- R51: a point at a room reset. -/
theorem PointEntry.roomReset_eq (e : PointEntry) (hold : Bool) (t : Nat) : e.roomReset hold t =
    if e.side = .room then
      { e with
        supervision := .awaiting
        deadline := if hold || e.silenceLimit == 0 then none else some (t + e.silenceLimit)
        lastArrival := none
        outOfSpan := false
        lastCommand := none }
    else e := by
  unfold PointEntry.roomReset
  cases hs : e.side with
  | trunk => rfl
  | room =>
    rw [if_pos rfl]
    refine (PointEntry.resetDeadline_eq ?_ ?_ hold t).trans ?_
    · rfl
    · rfl
    · rw [← hs]
      rfl

/-- R53: the window aggregate rests on the points and the zones. -/
theorem windowOpen_congr {s t : State} (hp : t.points = s.points) (hz : t.zones = s.zones) (z : Zone) :
    windowOpen t z = windowOpen s z := by
  have hpr : ∀ z, present t z = present s z := fun z => by simp [present, hz]
  have hprf : present t = present s := funext hpr
  have ha : areaOf t = areaOf s := funext fun _ => by simp [areaOf, hz]
  have hsh : ∀ n l y, shareOf t n l y = shareOf s n l y := fun n l y => by rw [shareOf, shareOf, ha]
  have he : ∀ e y, entryContribution t e y = entryContribution s e y := fun e y => by
    simp only [entryContribution, hsh, hprf]
  simp only [windowOpen, contributions, hpr, hp, he]

/-! ### The state a room reset leaves (R16) -/

/-- R16: the state in which the room queue is empty and a frame in reception on the room line is abandoned. -/
def roomEmptied (s : State) : State := s.withPort .room { s.room with queue := [], cuts := s.room.cuts + 1 }

/-- R16, R51, R57, R167: what a room reset of an UP room port leaves. -/
structure RoomResetDone (u x : State) : Prop where
  room : x.room = { u.room with queue := [], cuts := u.room.cuts + 1 }
  trunk : x.trunk = u.trunk
  signal : x.pins.roomSignal = true
  points : x.points = u.points.map fun e => e.roomReset u.hold u.elapsed
  outputs : ∀ e ∈ x.outputs, e.cleared ∧ (e.state = .idle ∨ e.state = .pending)
  evidence : ∀ z : Zone, x.evidence[z] = ⟨none, none, if windowOpen x z = true then some u.elapsed else none⟩
  undelivered : (∃ q ∈ u.room.queue, ∃ c n, q.owner = .delivery c n) → (x.notice .relayUndelivered).flag = true ∧
    ∃ q ∈ u.room.queue, ∃ c n, q.owner = .delivery c n ∧
      (x.notice .relayUndelivered).detail = some (c.setWidth 16 ++ (0 : BitVec 8))
  delivered : (∀ q ∈ u.room.queue, ∀ c n, q.owner ≠ .delivery c n) →
    (x.notice .relayUndelivered).flag = (u.notice .relayUndelivered).flag ∧
      (x.notice .relayUndelivered).detail = (u.notice .relayUndelivered).detail
  drive : DriveEnded u x ∧ x.drive = none ∧ x.driveToggle = false
  kept : x.partitions = u.partitions ∧ x.zones = u.zones ∧ x.overrides = u.overrides ∧ x.clock = u.clock ∧
    x.params = u.params ∧ x.hold = u.hold ∧ x.elapsed = u.elapsed ∧ x.address = u.address

/-- What a room reset resets, before the events it gives. -/
theorem roomResetState_done {u s : State} (h : QueueLost u.room.queue (roomEmptied u) s) (hd : s.drive = none) :
    RoomResetDone u (roomResetState s) := by
  have hf := h.frame
  obtain ⟨hu, hn⟩ := And.intro h.undelivered h.delivered
  have hdrive := h.drive
  have hroom : s.room = { u.room with queue := [], cuts := u.room.cuts + 1 } := by rw [hf]; rfl
  have htrunk : s.trunk = u.trunk := by rw [hf]; rfl
  have hpts : s.points = u.points := by rw [hf]; rfl
  have hel : s.elapsed = u.elapsed := by rw [hf]; rfl
  have hh : s.hold = u.hold := by rw [hf]; rfl
  refine ⟨hroom, htrunk, rfl, ?_, fun e he => ?_, fun z => ?_, hu, hn, ⟨hdrive, hd, rfl⟩, ?_⟩
  · rw [← hpts, ← hh, ← hel]
    rfl
  · obtain ⟨y, -, rfl⟩ := List.mem_map.mp he
    exact y.cleared_roomReset
  · rw [← hel]
    exact forZones_get _ z
  · unfold LostFrame at hf
    rw [hf]
    exact ⟨rfl, rfl, rfl, rfl, rfl, rfl, rfl, rfl⟩

/-- What an event of the room leaves of a room reset. -/
theorem RoomResetDone.event {u x y : State} (h : RoomResetDone u x) (w : RoomWork x y) : RoomResetDone u y := by
  have hf := w.frame
  have hq : y.room.queue = [] := by
    have := w.queue
    rw [h.room] at this
    simpa using this
  have hp : y.points = x.points := by rw [hf]
  have hz : y.zones = x.zones := by rw [hf]
  have hnot := w.notices .relayUndelivered (by decide) (by decide)
  refine ⟨?_, ?_, ?_, hp.trans h.points, w.outputs.all (fun _ w v he => OutEntry.cleared_take he w v) h.outputs, fun z => ?_, ?_, ?_, ?_, ?_⟩
  · have : y.room = { x.room with queue := y.room.queue } := by rw [hf]
    rw [this, hq, h.room]
  · rw [← h.trunk, hf]
  · rw [hf]; exact h.signal
  · rw [windowOpen_congr hp hz z]
    rcases w.evidence z with he | he <;> rw [he, h.evidence z]
  · rw [hnot]; exact h.undelivered
  · rw [hnot]; exact h.delivered
  · rw [hf]; exact h.drive
  · rw [hf]; exact h.kept

/-- R16: what a room reset leaves. -/
theorem roomResetEvent_done {u : State} (hu : u.room.up = true) : RoomResetDone u (roomResetEvent u) := by
  obtain ⟨hl, hd⟩ := (withdrawAll_lost u.room.queue (roomEmptied u)).endDrive
  unfold roomResetEvent roomResetDriven
  rw [if_pos hu]
  exact (roomResetState_done hl hd).event
    (((refreshPresentations_roomWork _).trans (countChanges_roomWork ..)).trans (windowChanges_roomWork ..))

/-! ### The request (R169, R171, R179) -/

/-- R169: all that the arrival and the acceptance of a request touch. -/
theorem acceptedBy_frame (rq : Requester) (v : List Byte) (s : State) : acceptedBy rq v s =
    { s with
      pins := (acceptedBy rq v s).pins
      lastRequester := (acceptedBy rq v s).lastRequester
      notices := (acceptedBy rq v s).notices
      hold := (acceptedBy rq v s).hold
      matchUnits := (acceptedBy rq v s).matchUnits
      captures := (acceptedBy rq v s).captures
      overflow := (acceptedBy rq v s).overflow } := by
  have hs : ShownFrame (clearPins s) (arrivedBy rq v s) := arrivedAt_shown rq.port (requestFrame rq v s) s
  unfold acceptedBy Machine.accept
  generalize arrivedBy rq v s = a at hs
  unfold ShownFrame at hs
  rw [hs]
  cases rq.port <;> rfl

theorem acceptedBy_notice (rq : Requester) (v : List Byte) (s : State) {k : NoticeKind} (hc : k ≠ .captureOverflow)
    (hh : k ≠ .holdEntered) : (acceptedBy rq v s).notice k = s.notice k := by
  have hn : (acceptedBy rq v s).notice k = (arrivedBy rq v s).notice k := by simp [acceptedBy, State.notice]
  exact hn.trans (showFrame_notice false rq.port _ (clearPins s) hc hh)

/-- R171: the reply of a performance is admitted where its port has a place. -/
theorem replyTo_admitted {rq : Requester} {code : Byte} {r : Result} {data : List Byte} {x : State} (hc : code ≠ 28)
    (ha : admits rq.port false x = true) : replyTo rq code (x, some (r, data)) = withReply rq code r data x := by
  simp only [replyTo, if_neg hc, sendReply, offer_admitted ha, replyFrame_eq, withReply, Option.getD_some]

/-- R179: the performance of ROOM_RESET without arguments. -/
theorem performRoomReset_ok (u : State) :
    performRoomReset [] u = (roomResetEvent u, some (.ok, flag8 u.room.up)) := rfl

/-- R179: what the request ends in. -/
theorem roomReset_request {rq : Requester} {s : State} (h : Accepted rq [27] s) :
    exec (.roomReset rq []) s = .next (settle (replyTo rq 27
      (roomResetEvent (acceptedBy rq [27] s), some (.ok, flag8 s.room.up)))) := by
  have hx := exec_of_requestOf (c := .roomReset rq []) rfl s
  have hr := request_accepted h (performCode rq (valueCode [27]) [27].tail)
  have hu : (acceptedBy rq [27] s).room.up = s.room.up := by rw [← State.port_room, acceptedBy_port, State.port_room]
  rw [hx, requested, event_eq, hr, ← hu, ← performRoomReset_ok]
  rfl

theorem withReply_port_self (rq : Requester) (code : Byte) (r : Result) (data : List Byte) (s : State) :
    (withReply rq code r data s).port rq.port = (s.port rq.port).enqueue (replyFields rq code r data s) .reply false := by
  simp [withReply]

/-- R171: a reply is an own frame behind the queue of its port. -/
theorem withReply_offered (rq : Requester) (code : Byte) (r : Result) (data : List Byte) (s : State) :
    Offered s (withReply rq code r data s) := Offered.ofAdmit ..

/-- R171: the reply of a request stays in its queue behind the offers. -/
theorem replied_settle (rq : Requester) (code : Byte) (r : Result) (data : List Byte) (s : State) :
    Replied rq code r data (settle (withReply rq code r data s)) := by
  have ho := (settle_offered (withReply rq code r data s))
  refine ⟨⟨replyFields rq code r data s, .reply, false, (s.port rq.port).nextOrder, false⟩, (ho.port rq.port).mem ?_, rfl, rfl,
    rfl, ?_⟩
  · rw [withReply_port_self]
    exact mem_enqueue ..
  · simp only [replyFields, ho.frame.address, (withReply_offered rq code r data s).frame.address]

/-- R171, R189: the deferred reply of a drive that ended unheard is in its queue. -/
def DeferredReplied (r : DeferredReply) (u t : State) : Prop :=
  t.deferred = none ∧ ∃ q ∈ (t.port r.port).queue, q.owner = .reply ∧
    q.frame = replyFields ⟨r.port, r.line, r.node, r.priority, false, 0, 0⟩ 26 .ok [3] u

/-- R10: a port that is UP and takes no own frame is full. -/
theorem full_of_refused {p : Port} {s : State} (hu : (s.port p).up = true) (h : admits p false s = false) :
    capacity p ≤ (s.port p).queue.length := by
  simpa [admits, hasRoom, hu] using h

/-- R188, R189: the deferred reply of a drive that the reset ended, behind the reply of the request. -/
theorem roomReset_deferred {rq : Requester} {u x y t : State} {d : Drive} {r : DeferredReply} (h : RoomResetDone u x)
    (hy : y = withReply rq 27 .ok [1] x) (ht : settle y = t) (hup : u.room.up = true) (hd : u.drive = some d)
    (hr : u.deferred = some r) :
    (t.deferred = none ∨ t.deferred = some { r with outcome := some .unheard }) ∧
      (r.port = .trunk → u.trunk.up = true →
        u.trunk.queue.length + (if rq.port = .trunk then 1 else 0) < 16 → DeferredReplied r u t) ∧
      (r.port = .room → DeferredReplied r u t ∨ 24 ≤ t.room.queue.length) := by
  have hyd : y.deferred = some { r with outcome := some .unheard } := by
    obtain ⟨hdr, hxd, -⟩ := h.drive
    have hx : x.deferred = some { r with outcome := some .unheard } := by
      rcases hdr with ⟨hdr, -⟩ | ⟨-, -, hdr⟩
      · rw [hxd] at hdr
        exact absurd (hdr.trans hd) (by simp)
      · rw [hdr, hr]
        rfl
    rw [hy]
    simpa [withReply] using hx
  have hframe : replyFrame y r.line r.node r.priority 26 .ok [driveOutcomeCode .unheard] =
      replyFields ⟨r.port, r.line, r.node, r.priority, false, 0, 0⟩ 26 .ok [3] u := by
    obtain ⟨-, -, -, -, -, -, -, haddr⟩ := h.kept
    have hya : y.address = u.address := by rw [hy]; simpa [withReply] using haddr
    rw [replyFrame, ownFrame, hya]
    rfl
  have he := settle_emitted y
  have hdone : DeferredDone .room (settle y) := (settleRoom_leaves (settleTrunk y)).1
  have hkept := fun hp ha => settle_deferred (d := { r with outcome := some .unheard }) hyd rfl hp ha
  rw [hframe] at hkept
  rw [ht] at he hdone hkept
  refine ⟨?_, fun hp htu hlen => ?_, fun hp => ?_⟩
  · rcases he.deferred with hs | hs
    · exact .inr (hs.trans hyd)
    · exact .inl hs
  · have ha : admits .trunk false y = true := by
      have hxt := h.trunk
      cases hq : rq.port with
      | room =>
        have : y.trunk = u.trunk := by rw [hy, withReply, hq]; exact hxt
        rw [hq] at hlen
        simpa [admits, hasRoom, this, htu, capacity, Config.trunkCapacity] using hlen
      | trunk =>
        have : y.trunk = u.trunk.enqueue (replyFields rq 27 .ok [1] x) .reply false := by
          simp only [hy, withReply, hq, State.port_trunk, hxt, State.withPort_trunk_trunk]
        rw [hq] at hlen
        simpa [admits, hasRoom, this, htu, capacity, Config.trunkCapacity, LinePort.enqueue] using hlen
    obtain ⟨hn, q, hq, hown, hf⟩ := hkept hp ha
    refine ⟨hn, q, ?_, hown, hf⟩
    rw [hp]
    exact hq
  · rcases he.replyFrames with hs | ⟨d', o, hd', ho, hn, q, hq, hown, hf⟩
    · right
      have hroomUp : (t.port .room).up = true := by
        have hu := (hy ▸ (withReply_offered rq 27 .ok [1] x).frame.up .room : (y.port .room).up = (x.port .room).up)
        rw [he.frame.up, hu, State.port_room, h.room]
        exact hup
      exact full_of_refused hroomUp (hdone _ (hs.trans hyd) (by simp) hp)
    · left
      rw [hyd] at hd'
      cases hd'
      cases ho
      exact ⟨hn, q, hq, hown, hf.trans hframe⟩

end Sys2Proof.Machine

open Sys2Proof Sys2Proof.Machine

/-- Settles O58: the reset (roomResetEvent_done), its reply, and the offers that follow. -/
theorem roomResetRestartsTheRoomSide : Obligations.RoomResetRestartsTheRoomSide := by
  intro rq s h u
  have hex := roomReset_request h
  have huf : u = _ := acceptedBy_frame rq [27] s
  have hur : u.room = s.room := by rw [huf]
  have hut : u.trunk = s.trunk := by rw [huf]
  refine ⟨fun hup => ?_, fun hdown => ?_⟩
  · have hd : RoomResetDone u (roomResetEvent u) := roomResetEvent_done (by rw [hur]; exact hup)
    generalize roomResetEvent u = x at hd hex
    have ha : admits rq.port false x = true := by
      obtain ⟨hrec, -, -, -, hlen⟩ := h
      have hxr := hd.room
      have hxt := hd.trunk
      rw [hur] at hxr
      rw [hut] at hxt
      cases hp : rq.port with
      | room => simp [admits, hasRoom, hxr, hup, capacity, Config.roomCapacity]
      | trunk =>
        simp only [receiving, hp, State.port_trunk, Bool.and_eq_true] at hrec
        rw [hp] at hlen
        simpa [admits, hasRoom, hxt, hrec.1] using hlen
    rw [replyTo_admitted (by decide) ha, show flag8 s.room.up = [1] by rw [hup]; rfl] at hex
    have hoff := (withReply_offered rq 27 .ok [1] x).trans (settle_offered (withReply rq 27 .ok [1] x))
    have hrep := replied_settle rq 27 .ok [1] x
    have hent := (settle_offerKept (withReply rq 27 .ok [1] x)).entries
      (fun e => e.cleared ∧ (e.state = .idle ∨ e.state = .pending ∨ e.state = .queued))
      (fun e n ⟨⟨h1, h2, h3, h4, h5, h6, _⟩, _⟩ => ⟨⟨h1, h2, h3, h4, h5, h6, rfl⟩, .inr (.inr rfl)⟩)
      fun e he => (hd.outputs e (by simpa [withReply] using he)).imp_right fun hs => hs.imp_right .inl
    generalize ht : settle (withReply rq 27 .ok [1] x) = t at hex hoff hrep hent
    have hf := hoff.frame
    obtain ⟨hc, hr⟩ := hf.counts .room
    obtain ⟨hct, hrt⟩ := hf.counts .trunk
    obtain ⟨hflag, hdet⟩ := hoff.notices .relayUndelivered
    have hun : u.notice .relayUndelivered = s.notice .relayUndelivered := acceptedBy_notice rq [27] s (by decide) (by decide)
    have hpts : t.points = x.points := hf.points
    have hzones : t.zones = x.zones := by rw [hf]
    refine ⟨t, hex, hrep, ?_, ?_, fun q hq => ?_, ?_, ?_, ?_, ?_, ?_, ?_, fun e he => ?_, fun z => ?_, fun hq => ?_, fun hq => ?_,
      fun d r h1 h2 => ?_, ?_⟩
    · rw [hf]; exact hd.signal
    · have := hf.up .room
      rw [State.port_room, State.port_room, hd.room, hur] at this
      exact this.trans hup
    · obtain ⟨fs, hfs, hown⟩ := hoff.room
      rw [hd.room] at hfs
      exact hown q (by simpa [hfs] using hq)
    · rw [State.port_room, State.port_room, hd.room, hur] at hc
      exact hc
    · rw [State.port_room, State.port_room, hd.room, hur] at hr
      exact hr
    · rw [State.port_trunk, State.port_trunk, hd.trunk, hut] at hct
      exact hct
    · rw [State.port_trunk, State.port_trunk, hd.trunk, hut] at hrt
      exact hrt
    · have := hoff.trunk
      rwa [hd.trunk, hut] at this
    · have hup : u.points = s.points := by rw [huf]
      have huel : u.elapsed = s.elapsed := by rw [huf]
      rw [hpts, hd.points, hup, huel]
      exact List.map_congr_left fun e _ => e.roomReset_eq u.hold s.elapsed
    · obtain ⟨⟨h1, h2, h3, h4, h5, h6, h7⟩, h8⟩ := hent e he
      exact ⟨h1, h2, h3, h4, h5, h6, h7, h8⟩
    · have hev : t.evidence = x.evidence := by rw [hf]
      have huel : u.elapsed = s.elapsed := by rw [huf]
      rw [windowOpen_congr hpts hzones, hev, hd.evidence, huel]
    · rw [hflag, hdet]
      have := hd.undelivered
      rw [hur] at this
      exact this hq
    · rw [hflag, hdet]
      have := hd.delivered
      rw [hur, hun] at this
      exact this hq
    · obtain ⟨h3, h4, h5⟩ := roomReset_deferred (d := d) (r := r) hd rfl ht (by rw [hur]; exact hup)
        (by rw [huf]; exact h1) (by rw [huf]; exact h2)
      unfold DeferredReplied at h4 h5
      have hfr : replyFields ⟨r.port, r.line, r.node, r.priority, false, 0, 0⟩ 26 .ok [3] u =
          replyFields ⟨r.port, r.line, r.node, r.priority, false, 0, 0⟩ 26 .ok [3] s := by
        rw [replyFields, huf]
        rfl
      rw [hfr, hut] at h4
      rw [hfr] at h5
      exact ⟨h3, h4, h5⟩
    · obtain ⟨-, hxd, hxt⟩ := hd.drive
      obtain ⟨h1, h2, h3, h4, h5, h6, h7, -⟩ := hd.kept
      have hdr := hoff.drive
      rw [hxd] at hdr
      refine ⟨Option.map_eq_none_iff.mp hdr, ?_, ?_, ?_, ?_, ?_, ?_, ?_, ?_⟩
      · rw [hf]; exact hxt
      · rw [hf]; exact h1.trans (by rw [huf])
      · rw [hf]; exact h2.trans (by rw [huf])
      · rw [hf]; exact h3.trans (by rw [huf])
      · rw [hf]; exact h4.trans (by rw [huf])
      · rw [hf]; exact h5.trans (by rw [huf])
      · rw [hf]; exact h6
      · rw [hf]; exact h7.trans (by rw [huf])
  · have hev : roomResetEvent u = u := if_neg (by simp [hur, hdown])
    exact endsIn_reply (exec_of_requestOf (c := .roomReset rq []) rfl s) h (by decide)
      (show performRoomReset [] u = _ by rw [performRoomReset_ok, hev, hur, hdown]; rfl) (acceptedBy_port ..)
end

section
/-! SUPPORT. The order and the places of the loaded tables (R21, R24, R87, R88): what the loading requests do to them, and that
every command keeps them. -/

namespace Sys2Proof.Machine

/-! ### What is kept -/

/-- The point table and both pages stay as their chapters state; the outbound table is part of Sound. -/
structure TablesKept (s t : State) : Prop where
  points : PointsSound s → PointsSound t
  pageA : PageSound s.pageA → PageSound t.pageA
  pageB : PageSound s.pageB → PageSound t.pageB

theorem TablesKept.refl (s : State) : TablesKept s s := ⟨id, id, id⟩

theorem TablesKept.trans {s t u : State} (a : TablesKept s t) (b : TablesKept t u) : TablesKept s u :=
  ⟨b.points ∘ a.points, b.pageA ∘ a.pageA, b.pageB ∘ a.pageB⟩

/-- R21: a code order is an order of static parts. -/
theorem pointsSound_of_map_fresh {s t : State} (h : t.points.map PointEntry.fresh = s.points.map PointEntry.fresh)
    (hs : PointsSound s) : PointsSound t := by
  have hr : ∀ l : List PointEntry, (l.map PointEntry.fresh).Pairwise (fun a b => a.code.toNat < b.code.toNat) ↔
      l.Pairwise fun a b => a.code.toNat < b.code.toNat := fun l => List.pairwise_map
  have hl : t.points.length = s.points.length := by simpa using congrArg List.length h
  exact ⟨(hr _).mp (h ▸ (hr _).mpr hs.1), hl ▸ hs.2⟩

/-- What keeps the loaded tables keeps their order. -/
theorem Keeps.tablesKept {P : Prop} {s t : State} (h : Keeps True P s t) : TablesKept s t := by
  have hl := h.loaded trivial
  simp only [State.loaded, Prod.mk.injEq] at hl
  obtain ⟨hp, -, -, ha, hb, -⟩ := hl
  exact ⟨pointsSound_of_map_fresh hp, ha ▸ id, hb ▸ id⟩

/-- A write of anything but the point table and the pages. -/
theorem TablesKept.of_eq {s t : State} (hp : t.points = s.points) (ha : t.pageA = s.pageA) (hb : t.pageB = s.pageB) :
    TablesKept s t :=
  ⟨fun h => by simpa only [PointsSound, hp] using h, ha ▸ id, hb ▸ id⟩

theorem TablesKept.event {s t u : State} (h : TablesKept s t) (e : RoomEvent t u) : TablesKept s u :=
  h.trans (e.keeps (L := True) (P := True)).tablesKept

/-! ### The loading requests -/

/-- R24: an entry whose code is listed takes the place of the listed one. -/
theorem insertPoint_length_of_listed {e : PointEntry} {l : List PointEntry}
    (h : l.Pairwise fun a b => a.code.toNat < b.code.toNat) (hm : ∃ x ∈ l, x.code = e.code) :
    (insertPoint e l).length = l.length := by
  induction l with
  | nil => simp at hm
  | cons y ys ih =>
    obtain ⟨hy, hys⟩ := List.pairwise_cons.mp h
    unfold insertPoint
    split
    · simp
    · rename_i hne
      obtain ⟨x, hx, hxe⟩ := hm
      have hmem : x ∈ ys := (List.mem_cons.mp hx).resolve_left fun h => hne (h ▸ hxe)
      have hlt : y.code.toNat < e.code.toNat := hxe ▸ hy x hmem
      rw [if_neg (by omega)]
      simpa using ih hys ⟨x, hmem, hxe⟩

/-- R24: a table that is not full for a code has a place for its entry. -/
theorem insertPoint_sound {s : State} (h : PointsSound s) {e : PointEntry} (hf : pointTableFull s e.code = false) :
    PointsSound { s with points := insertPoint e s.points } := by
  obtain ⟨ho, hl⟩ := h
  refine ⟨insertPoint_ordered e ho, ?_⟩
  simp only [pointTableFull, findPoint, Bool.and_eq_false_imp, Option.isNone_iff_eq_none, decide_eq_false_iff_not,
    List.find?_eq_none, beq_iff_eq] at hf
  by_cases hm : ∃ x ∈ s.points, x.code = e.code
  · exact (insertPoint_length_of_listed ho hm).trans_le hl
  · have hlt := hf fun x hx hc => hm ⟨x, hx, hc⟩
    exact (insertPoint_length_le e s.points).trans (Nat.lt_of_not_le hlt)

/-- The last test of a request passes where the request is performed. -/
theorem firstFailing_eq_none {l : List (Bool × Result)} : firstFailing l = none ↔ ∀ x ∈ l, x.1 = false := by
  refine ⟨fun h => ?_, firstFailing_none⟩
  induction l with
  | nil => simp
  | cons x l ih =>
    obtain ⟨f, r⟩ := x
    cases f
    · simpa using ih h
    · simp [firstFailing] at h

/-- A request whose performance keeps the tables where its tests pass keeps them. -/
theorem tested_tablesKept {l : List (Bool × Result)} {perform : State → Performed} {s : State}
    (h : (∀ x ∈ l, x.1 = false) → TablesKept s (perform s).1) : TablesKept s (tested (firstFailing l) perform s).1 := by
  rcases tested_cases (firstFailing l) perform s with ⟨e, -, heq⟩ | ⟨hn, heq⟩ <;> rw [heq]
  · exact .refl s
  · exact h (firstFailing_eq_none.mp hn)

/-- The same for a performance that answers OK. -/
theorem tested_done_tablesKept {l : List (Bool × Result)} {data : State → List Byte} {f : State → State} {s : State}
    (h : (∀ x ∈ l, x.1 = false) → TablesKept s (f s)) :
    TablesKept s (tested (firstFailing l) (fun s => done (data s) (f s)) s).1 := tested_tablesKept h

theorem loadPoint_tablesKept (a : List Byte) (s : State) : TablesKept s (performLoadPoint a s).1 := by
  refine tested_done_tablesKept fun ht => ?_
  have hf : pointTableFull s (pointOf a).code = false := ht (pointTableFull s (pointOf a).code, .tableFull) (by simp)
  have hi : TablesKept s { s with points := insertPoint (pointOf a) s.points } :=
    ⟨fun h => insertPoint_sound h hf, id, id⟩
  unfold loadPointEntry
  split
  · exact hi.event (pointLeft_event ..)
  · exact hi

/-- R25: the table without the entries of a code. -/
theorem filter_pointsSound {s : State} (h : PointsSound s) (f : PointEntry → Bool) :
    PointsSound { s with points := s.points.filter f } :=
  ⟨h.1.filter f, (List.length_filter_le f _).trans h.2⟩

theorem deletePoint_tablesKept (a : List Byte) (s : State) : TablesKept s (performDeletePoint a s).1 := by
  refine tested_tablesKept fun _ => ?_
  split
  · rename_i e _
    have hi : TablesKept s { s with points := s.points.filter fun x => x.code != e.code } :=
      ⟨fun h => filter_pointsSound h _, id, id⟩
    exact hi.event (pointLeft_event ..)
  · exact .refl s

theorem loadZone_tablesKept (a : List Byte) (s : State) : TablesKept s (performLoadZone a s).1 := by
  refine tested_done_tablesKept fun _ => ?_
  unfold loadZoneRecord
  refine .event ?_ (rebuild_roomWork _).event
  exact .of_eq rfl rfl rfl

theorem deleteOutput_tablesKept (a : List Byte) (s : State) : TablesKept s (performDeleteOutput a s).1 := by
  refine tested_tablesKept fun _ => ?_
  split
  · split <;> exact .of_eq rfl rfl rfl
  · exact .refl s

/-- R88: two bookings overlap in either order. -/
theorem overlapsBooking_comm (a b : Booking) : overlapsBooking a b = overlapsBooking b a := by
  simp only [overlapsBooking, sharesWeekday, sharesZone, intersects, Bool.and_comm]

/-- R87: of two bookings with different ids one comes before the other. -/
theorem before_of_not_before {a b : Booking} (hid : a.id ≠ b.id) (h : a.before b = false) : b.before a = true := by
  simp only [Booking.before, Bool.or_eq_false_iff, decide_eq_false_iff_not, Bool.and_eq_false_imp, beq_iff_eq,
    Bool.or_eq_true, decide_eq_true_eq, Bool.and_eq_true] at *
  omega

theorem before_trans {a b c : Booking} (h : a.before b = true) (h' : b.before c = true) : a.before c = true := by
  simp only [Booking.before, Bool.or_eq_true, decide_eq_true_eq, Bool.and_eq_true, beq_iff_eq] at *
  omega

/-- R87, R88: a booking of a new id that overlaps none takes its place in the page's order. -/
theorem insertBooking_ordered {b : Booking} {l : List Booking}
    (h : l.Pairwise fun x y => x.before y = true ∧ x.id ≠ y.id ∧ overlapsBooking x y = false)
    (hid : ∀ x ∈ l, x.id ≠ b.id) (hov : ∀ x ∈ l, overlapsBooking b x = false) :
    (insertBooking b l).Pairwise fun x y => x.before y = true ∧ x.id ≠ y.id ∧ overlapsBooking x y = false := by
  induction l with
  | nil => simp [insertBooking]
  | cons y ys ih =>
    obtain ⟨hy, hys⟩ := List.pairwise_cons.mp h
    unfold insertBooking
    split
    · rename_i hb
      refine List.pairwise_cons.mpr ⟨fun x hx => ⟨?_, (hid x hx).symm, hov x hx⟩, h⟩
      rcases List.mem_cons.mp hx with rfl | hx
      · exact hb
      · exact before_trans hb (hy x hx).1
    · rename_i hb
      refine List.pairwise_cons.mpr ⟨fun x hx => ?_,
        ih hys (fun x hx => hid x (List.mem_cons_of_mem _ hx)) fun x hx => hov x (List.mem_cons_of_mem _ hx)⟩
      rcases mem_insertBooking.mp hx with rfl | hx
      · have hne := hid y List.mem_cons_self
        exact ⟨before_of_not_before hne.symm (by simpa using hb), hne,
          (overlapsBooking_comm ..).trans (hov y List.mem_cons_self)⟩
      · exact hy x hx

/-- R88: where a LOAD_BOOKING passes its tests its page stays as R87 and R88 state. -/
theorem insertBooking_sound {b : Booking} {page : List Booking} (h : PageSound page) (hid : findBooking page b.id = none)
    (hov : page.any (overlapsBooking b) = false) (hlen : page.length < 64) : PageSound (insertBooking b page) := by
  refine ⟨insertBooking_ordered h.1 ?_ ?_, (insertBooking_length b page).trans_le hlen⟩
  · simpa [findBooking] using hid
  · simpa using hov

/-- R87: the STANDBY page is replaced by one that is sound where it was. -/
theorem withStandby_tablesKept {s : State} {page : List Booking} (h : PageSound s.standbyBookings → PageSound page) :
    TablesKept s (s.withStandby page) := by
  unfold State.standbyBookings State.standbyPage at h
  unfold State.withStandby State.standbyPage
  cases hp : s.activePage <;> rw [hp] at h
  · exact ⟨id, id, h⟩
  · exact ⟨id, h, id⟩

theorem loadBooking_tablesKept (a : List Byte) (s : State) : TablesKept s (performLoadBooking a s).1 := by
  refine tested_done_tablesKept fun ht => withStandby_tablesKept fun h => ?_
  simp only [List.forall_mem_cons, Option.isSome_eq_false_iff, Option.isNone_iff_eq_none, decide_eq_false_iff_not,
    Nat.not_le] at ht
  obtain ⟨-, -, hid, hov, hlen, -⟩ := ht
  exact insertBooking_sound h hid hov hlen

theorem loadScene_tablesKept (a : List Byte) (s : State) : TablesKept s (performLoadScene a s).1 := by
  refine tested_done_tablesKept fun _ => ?_
  unfold loadSceneContent
  refine .event ?_ (RoomWork.foldl (fun u z => ?_) _ _).event
  · exact .of_eq rfl rfl rfl
  · exact .ite (sceneChange_roomWork ..)

theorem loadProfile_tablesKept (a : List Byte) (s : State) : TablesKept s (performLoadProfile a s).1 := by
  refine tested_done_tablesKept fun _ => ?_
  unfold loadProfileSlots
  refine .event ?_ (RoomWork.foldl selectAfresh_roomWork _ _).event
  exact .of_eq rfl rfl rfl

/-! ### Every request, every command -/

/-- R172: every request keeps the tables; one that loads nothing since it keeps what is loaded. -/
theorem performCode_tablesKept (rq : Requester) (code : Byte) (a : List Byte) (s : State) :
    TablesKept s (performCode rq code a s).1 := by
  by_cases h : code.toNat ∈ loadingCodes
  · simp only [loadingCodes, List.mem_cons, List.not_mem_nil, or_false] at h
    unfold performCode
    rcases h with h | h | h | h | h | h | h | h | h | h <;> rw [h]
    · exact loadPoint_tablesKept a s
    · exact deletePoint_tablesKept a s
    · exact loadZone_tablesKept a s
    · exact tested_done_tablesKept fun _ => .of_eq rfl rfl rfl
    · exact deleteOutput_tablesKept a s
    · exact loadBooking_tablesKept a s
    · exact tested_done_tablesKept fun _ => withStandby_tablesKept fun _ => ⟨.nil, Nat.zero_le _⟩
    · exact loadScene_tablesKept a s
    · exact loadProfile_tablesKept a s
    · exact tested_done_tablesKept fun _ => .of_eq rfl rfl rfl
  · exact ((performCode_keeps rq code a s).mono (fun _ => h) id).tablesKept

theorem replyTo_tablesKept (rq : Requester) (code : Byte) (p : Performed) : TablesKept p.1 (replyTo rq code p) :=
  (replyTo_keeps (L := True) (P := True) rq code (.refl p.1)).tablesKept

theorem respond_tablesKept {rq : Requester} {code : Byte} {perform : State → Performed}
    (h : ∀ u, TablesKept u (perform u).1) (s : State) : TablesKept s (respond rq code perform s) := by
  have ha : ∀ a, TablesKept s (answer rq.port a s) := fun a => (answer_keeps (L := True) (P := True) ..).tablesKept
  unfold respond
  split
  · exact ha _
  · split
    · exact ha _
    · split
      · exact ha _
      · exact ((accept_keeps (L := True) (P := True) rq s).tablesKept.trans (h _)).trans (replyTo_tablesKept ..)

theorem request_tablesKept (rq : Requester) (value : List Byte) (s : State) :
    TablesKept s (request rq value (performCode rq (valueCode value) value.tail) s) := by
  unfold request
  split
  · split
    · exact (showFrame_keeps (L := True) (P := True) ..).tablesKept.trans
        (respond_tablesKept (performCode_tablesKept rq _ _) _)
    · exact (countMalformed_keeps (L := True) (P := True) ..).tablesKept
  · exact .refl s

/-- R27: handling a good frame keeps the tables; a MANAGE frame to the device is a request. -/
theorem classify_tablesKept (p : Port) (f : Frame) (s : State) : TablesKept s (classify p f s) := by
  by_cases h : f.kind = .manage ∧ forDevice s f = true
  · obtain ⟨hk, hd⟩ := h
    have heq : classify p f s = takeManage (requesterOf p f) f.value s := by
      simp only [classify, hk, manageFrame, hd, if_true]
    exact heq ▸ respond_tablesKept (performCode_tablesKept _ _ _) s
  · exact (classify_keeps (L := True) (P := True) (fun hk hd => absurd ⟨hk, hd⟩ h)
      fun hk hd => absurd ⟨hk, hd⟩ h).tablesKept

theorem frameArrives_tablesKept (p : Port) (bytes : List Byte) (begun : Nat) (s : State) :
    TablesKept s (frameArrives p bytes begun s) := by
  unfold frameArrives receive
  split
  · split
    · exact (countMalformed_keeps (L := True) (P := True) ..).tablesKept
    · exact (showFrame_keeps (L := True) (P := True) ..).tablesKept.trans (classify_tablesKept ..)
  · exact .refl s

theorem arbitrationLoses_tablesKept (p : Port) (winner : List Byte) (begun : Nat) (s : State) :
    TablesKept s (arbitrationLoses p winner begun s) := by
  unfold arbitrationLoses
  split
  · split
    · exact (setWaiting_keeps (L := True) (P := True) ..).tablesKept.trans (frameArrives_tablesKept ..)
    · exact .refl s
  · exact .refl s

theorem event_tablesKept {f : State → State} {s : State} (h : TablesKept (clearPins s) (f (clearPins s))) :
    TablesKept s (settle (f (clearPins s))) :=
  ((clearPins_keeps (L := True) (P := True) s).tablesKept.trans h).trans
    (settle_keeps (L := True) (P := True) _).tablesKept

/-- A command that brings no request to the device loads nothing. -/
theorem exec_tablesKept_of_no_request {c : Instr} {s : State} (hc : ∀ a b n, c ≠ .powerOnReset a b n)
    (hr : c.requests s = none) : ∃ t, exec c s = .next t ∧ TablesKept s t := by
  obtain ⟨t, ht, hk⟩ := exec_keeps s hc
  exact ⟨t, ht, (hk.mono (fun _ => by simp [hr]) id).tablesKept⟩

/-- Every command keeps the tables: a request and an arrival by their code, POWER_ON_RESET since it empties them, and every other
command since it brings no request. -/
theorem exec_tablesKept (c : Instr) (s : State) : ∃ t, exec c s = .next t ∧ TablesKept s t := by
  cases hreq : c.requestOf with
  | some x => exact ⟨_, exec_of_requestOf hreq s, event_tablesKept (request_tablesKept ..)⟩
  | none =>
    cases c
    case powerOnReset a b n => exact ⟨_, exec_powerOnReset a b n s, fun _ => ⟨.nil, Nat.zero_le _⟩,
      fun _ => ⟨.nil, Nat.zero_le _⟩, fun _ => ⟨.nil, Nat.zero_le _⟩⟩
    case frameArrival p bytes begun => exact ⟨_, rfl, event_tablesKept (frameArrives_tablesKept ..)⟩
    case arbitrationLost p w => exact ⟨_, rfl, event_tablesKept (arbitrationLoses_tablesKept p w.1 w.2 _)⟩
    all_goals first
      | exact exec_tablesKept_of_no_request nofun rfl
      | exact absurd hreq nofun

end Sys2Proof.Machine

open Sys2Proof Sys2Proof.Machine

/-- Settles O6: every operation keeps the outbound table in order (step_sound), and every command the other tables
(exec_tablesKept). -/
theorem stepKeepsTablesOrdered : Obligations.StepKeepsTablesOrdered := by
  intro s t ⟨hp, ho, ha, hb⟩ h
  have hk : TablesKept s t := by
    cases hq : s.pending with
    | nil =>
      rw [step_nil hq] at h
      cases h
      exact .refl s
    | cons c rest =>
      obtain ⟨u, hu, hk⟩ := exec_tablesKept c { s with pending := rest }
      cases (step_cons hq).symm.trans h |>.symm.trans hu
      exact TablesKept.trans (t := { s with pending := rest }) (.of_eq rfl rfl rfl) hk
  exact ⟨hk.points hp, (step_sound h).outputs ho, hk.pageA ha, hk.pageB hb⟩
end

section
/-! SUPPORT. A MANAGE frame to the device and the request command of its value (R37, R172; log 5). -/

namespace Sys2Proof.Machine

/-- R172: a value of a listed code is that code and the bytes behind it. -/
theorem cons_tail_of_valueCode {v : List Byte} {n : Nat} (h : (valueCode v).toNat = n) (hn : n ≠ 0) :
    BitVec.ofNat 8 n :: v.tail = v := by
  cases v with
  | nil => exact absurd h.symm hn
  | cons b bs =>
    have hb : b = BitVec.ofNat 8 n := by rw [← h]; simp [valueCode]
    rw [hb, List.tail_cons]

/-- R172: the request command of a value carries just that value. -/
theorem requestOf_requestCommand (rq : Requester) (v : List Byte) : (requestCommand rq v).requestOf = some (rq, v) := by
  unfold requestCommand
  split
  case h_29 => rfl
  all_goals
    rename_i h
    exact congrArg (fun v => some (rq, v)) (cons_tail_of_valueCode h (by decide))

/-- R4: the frame of a request that has a frame's header and value and goes to the device is that frame. -/
theorem requestFrame_requesterOf {p : Port} {f : Frame} {s : State} (hk : f.kind = .manage) (hd : forDevice s f = true) :
    requestFrame (requesterOf p f) f.value s = f := by
  simp only [forDevice, Bool.and_eq_true, beq_iff_eq] at hd
  obtain ⟨hl, hn⟩ := hd
  have ht : (s.address.trunkLine ++ s.address.node : BitVec 12) = f.target := by rw [← hl, ← hn, append_target]
  simp only [requestFrame, requesterOf, ht, ← hk]

/-- R6: a good MANAGE frame has an origin node and a length that its kind admits. -/
theorem carriable_requesterOf {p : Port} {f : Frame} (hk : f.kind = .manage) (hg : f.good = true) :
    carriable (requesterOf p f) f.value = true := by
  simp only [Frame.good, hk, Kind.maxLength, Kind.isPoint, Bool.and_eq_true, decide_eq_true_eq] at hg
  obtain ⟨⟨⟨hl, h0⟩, h255⟩, -⟩ := hg
  simp only [carriable, Requester.wellFormed, valueWellFormed, requesterOf, Bool.and_eq_true, decide_eq_true_eq]
  exact ⟨⟨h0, h255⟩, hl⟩

/-- R37, R169: the arrival of a good MANAGE frame to the device is the request of its value. -/
theorem frameArrives_manage {p : Port} {bytes : List Byte} {f : Frame} {s : State} (h : Receives p bytes f s)
    (hk : f.kind = .manage) (hd : forDevice s f = true) :
    frameArrives p bytes (s.port p).cuts s = request (requesterOf p f) f.value
      (performCode (requesterOf p f) (valueCode f.value) f.value.tail) s := by
  have hc := carriable_requesterOf (p := p) hk (decode_eq_some.mp h.2).1
  have hd' : forDevice (showFrame false p f s) f = true := (forDevice_congr (showFrame_shown false p f s).address f).trans hd
  have hr : receiving (requesterOf p f).port s = true := h.1
  rw [frameArrives_good h]
  simp only [classify, hk, manageFrame, hd', request, hr, hc, requestFrame_requesterOf hk hd, if_true]
  rfl

end Sys2Proof.Machine

open Sys2Proof Sys2Proof.Machine

/-- Settles O30: FRAME_ARRIVAL and the request command are events of the same effect (frameArrives_manage). -/
theorem manageFrameIsTheRequestCommand : Obligations.ManageFrameIsTheRequestCommand := by
  intro p f s h hk hd
  have hr : Receives p f.encode f (clearPins s) := ⟨(receiving_clearPins p s).trans h.1, h.2⟩
  have ha := frameArrives_manage hr hk hd
  rw [clearPins_port] at ha
  rw [exec_of_requestOf (requestOf_requestCommand ..)]
  show event (frameArrives p f.encode (s.port p).cuts) s = event _ s
  rw [event_eq, event_eq, ha]
  rfl
end

section
/-! SUPPORT. The requests that read (R21, R89, R172, R173, R176, R177): what each finds, and that its reply is all it does. -/

namespace Sys2Proof.Machine

/-! ### A request that only replies -/

/-- R172: the bytes of what is found with OK, NOT_FOUND where there is none. -/
def found {α : Type} (o : Option α) (data : α → List Byte) (s : State) : Performed :=
  match o with
  | some x => done (data x) s
  | none => refuse .notFound s

/-- R178: the one code whose request has no reply. -/
theorem valueCode_cons_ne {b : Byte} (h : b ≠ 28) (a : List Byte) : valueCode (b :: a) ≠ 28 := h

/-- R169, R172: an accepted request that changes nothing ends in what arrival and acceptance leave with its reply queued. -/
theorem endsIn_replyOnly {c : Instr} {rq : Requester} {v : List Byte} {s : State} {r : Result} {data : List Byte}
    (hc : c.requestOf = some (rq, v)) (h : Accepted rq v s) (h28 : valueCode v ≠ 28)
    (hp : performCode rq (valueCode v) v.tail (acceptedBy rq v s) = (acceptedBy rq v s, some (r, data))) :
    EndsIn c s (withReply rq (valueCode v) r data (acceptedBy rq v s)) :=
  endsIn_reply (exec_of_requestOf hc s) h h28 hp (acceptedBy_port ..)

/-- The same for a request that answers what it finds. -/
theorem endsIn_found {α : Type} {c : Instr} {rq : Requester} {v : List Byte} {s : State} {o : Option α}
    {data : α → List Byte} (hc : c.requestOf = some (rq, v)) (h : Accepted rq v s) (h28 : valueCode v ≠ 28)
    (hp : performCode rq (valueCode v) v.tail (acceptedBy rq v s) = found o data (acceptedBy rq v s)) :
    (∀ x, o = some x → EndsIn c s (withReply rq (valueCode v) .ok (data x) (acceptedBy rq v s))) ∧
      (o = none → EndsIn c s (withReply rq (valueCode v) .notFound [] (acceptedBy rq v s))) := by
  refine ⟨fun x hx => ?_, fun hn => ?_⟩
  · subst hx
    exact endsIn_replyOnly hc h h28 hp
  · subst hn
    exact endsIn_replyOnly hc h h28 hp

/-! ### What each read finds -/

theorem performReadPoint_eq {a : List Byte} (hl : a.length = 3) (hc : u16 a 0 ≤ 4095) (hf : u8 a 2 ≤ 1) (s : State) :
    performReadPoint a s = found (pointNamed s (u16 a 0) (u8 a 2)) PointEntry.replyBytes s := by
  unfold performReadPoint
  rw [firstFailing_none (by simp [hl, hc, hf])]
  cases h : pointNamed s (u16 a 0) (u8 a 2) <;> simp only [tested_none, h, found]

theorem performReadZone_eq {a : List Byte} (hl : a.length = 2) (hz : u8 a 0 ≤ 3) (hp : u8 a 1 ≤ 4) (s : State) :
    performReadZone a s = found (if u8 a 1 = 0 ∨ present s (zoneAt (u8 a 0)) = true then some (u8 a 1) else none)
      (zonePart s (zoneAt (u8 a 0))) s := by
  have hlen : (a.length != 2) = false := by simp [hl]
  have hrange : (decide (3 < u8 a 0) || decide (4 < u8 a 1)) = false := by simp [hz, hp]
  unfold performReadZone
  by_cases h : u8 a 1 = 0 ∨ present s (zoneAt (u8 a 0)) = true
  · have hhere : (u8 a 1 != 0 && !present s (zoneAt (u8 a 0))) = false := by rcases h with h | h <;> rw [h] <;> simp
    rw [if_pos h]
    simp only [firstFailing, hlen, hrange, hhere]
    rfl
  · have habsent : (u8 a 1 != 0 && !present s (zoneAt (u8 a 0))) = true := by
      rw [not_or, Bool.not_eq_true] at h
      rw [h.2]
      simpa using h.1
    rw [if_neg h]
    simp only [firstFailing, hlen, hrange, habsent]
    rfl

theorem performReadOutput_eq {a : List Byte} (hl : a.length = 1) (hi : u8 a 0 ≤ 63) (s : State) :
    performReadOutput a s = found (findOutput s (indexAt (u8 a 0))) OutEntry.replyBytes s := by
  unfold performReadOutput
  rw [firstFailing_none (by simp [hl, hi])]
  cases h : findOutput s (indexAt (u8 a 0)) <;> simp only [tested_none, h, found]

theorem performReadBooking_eq {a : List Byte} (hl : a.length = 4) (hp : u8 a 0 ≤ 1) (hf : u8 a 3 ≤ 1) (s : State) :
    performReadBooking a s =
      found (bookingNamed (s.page (pageAt (u8 a 0))) (u16 a 1) (u8 a 3)) Booking.bytes s := by
  unfold performReadBooking
  rw [firstFailing_none (by simp [hl, hp, hf])]
  cases h : bookingNamed (s.page (pageAt (u8 a 0))) (u16 a 1) (u8 a 3) <;> simp only [tested_none, h, found]

/-- R173: the one argument byte of READ_PARAMETER returns before the value. -/
theorem performReadParameter_eq {a : List Byte} (hl : a.length = 1) (s : State) :
    performReadParameter a s = found (s.params.get (u8 a 0)) (fun v => a ++ be16 v) s := by
  obtain ⟨b, rfl⟩ := List.length_eq_one_iff.mp hl
  have hb : byteOf (u8 [b] 0) = b := by simp [u8, byteOf]
  unfold performReadParameter paramBytes
  rw [firstFailing_none (by simp)]
  rw [hb]
  cases h : s.params.get (u8 [b] 0) <;> simp only [tested_none, h, found, List.cons_append, List.nil_append]

/-- R172: a value of no listed code. -/
theorem valueCode_of_unknown {a : List Byte} (h : unknownWellFormed a = true) :
    (valueCode a).toNat = 0 ∨ 28 < (valueCode a).toNat := by
  cases a with
  | nil => exact .inl rfl
  | cons b bs =>
    simp only [unknownWellFormed, Bool.and_eq_true, Bool.or_eq_true, beq_iff_eq, decide_eq_true_eq] at h
    exact h.2.imp (congrArg BitVec.toNat) id

theorem performCode_unknown {rq : Requester} {code : Byte} (h : code.toNat = 0 ∨ 28 < code.toNat) (a : List Byte) (s : State) :
    performCode rq code a s = refuse .malformed s := by
  unfold performCode
  split
  case h_29 => rfl
  all_goals omega

/-! ### What arrival and acceptance leave of what is read -/

theorem acceptedBy_points (rq : Requester) (v : List Byte) (s : State) : (acceptedBy rq v s).points = s.points := by
  rw [acceptedBy_frame]
theorem acceptedBy_zones (rq : Requester) (v : List Byte) (s : State) : (acceptedBy rq v s).zones = s.zones := by
  rw [acceptedBy_frame]
theorem acceptedBy_outputs (rq : Requester) (v : List Byte) (s : State) : (acceptedBy rq v s).outputs = s.outputs := by
  rw [acceptedBy_frame]
theorem acceptedBy_params (rq : Requester) (v : List Byte) (s : State) : (acceptedBy rq v s).params = s.params := by
  rw [acceptedBy_frame]

theorem acceptedBy_page (rq : Requester) (v : List Byte) (s : State) (p : Page) :
    (acceptedBy rq v s).page p = s.page p := by
  rw [acceptedBy_frame]
  cases p <;> rfl

/-- R173: a zone part reads nothing that the match units or the responder write. -/
theorem zonePart_acceptedBy (rq : Requester) (v : List Byte) (s : State) :
    zonePart (acceptedBy rq v s) = zonePart s := by
  have h := acceptedBy_frame rq v s
  generalize acceptedBy rq v s = u at h
  rw [h]
  rfl

/-- R21: the entry READ_POINT names, as the statements say it. -/
theorem pointNamed_acceptedBy (rq : Requester) (v : List Byte) (s : State) (code form : Nat) :
    pointNamed (acceptedBy rq v s) code form = if form = 0 then s.points.find? fun e => e.code.toNat = code
      else s.points.find? fun e => code < e.code.toNat := by
  simp only [pointNamed, acceptedBy_points, beq_eq_decide]

end Sys2Proof.Machine

open Sys2Proof Sys2Proof.Machine

/-- Settles O47: what each request finds (the performRead lemmas) in what arrival and acceptance leave, and its reply
(endsIn_found). -/
theorem readsReplyAndChangeNothing : Obligations.ReadsReplyAndChangeNothing := by
  intro rq a s answers
  refine ⟨fun h hl hc hf => ?_, fun h hl hz hp => ?_, fun h hl hi => ?_, fun h hl hp hf => ?_, fun h hl => ?_,
    fun h ha => ?_, fun h hw => ?_⟩
  · have hr := endsIn_found (c := .readPoint rq a) rfl h (valueCode_cons_ne (by decide) a) (performReadPoint_eq hl hc hf _)
    rw [pointNamed_acceptedBy] at hr
    split
    · exact hr.1 _ ‹_›
    · exact hr.2 ‹_›
  · have hr := endsIn_found (c := .readZone rq a) rfl h (valueCode_cons_ne (by decide) a) (performReadZone_eq hl hz hp _)
    rw [zonePart_acceptedBy, present, acceptedBy_zones, ← present] at hr
    split
    · exact hr.1 _ (if_pos ‹_›)
    · exact hr.2 (if_neg ‹_›)
  · have hr := endsIn_found (c := .readOutput rq a) rfl h (valueCode_cons_ne (by decide) a) (performReadOutput_eq hl hi _)
    rw [findOutput, acceptedBy_outputs, ← findOutput] at hr
    split
    · exact hr.1 _ ‹_›
    · exact hr.2 ‹_›
  · have hr := endsIn_found (c := .readBooking rq a) rfl h (valueCode_cons_ne (by decide) a) (performReadBooking_eq hl hp hf _)
    have hpage : s.page (pageAt (u8 a 0)) = if u8 a 0 = 0 then s.pageA else s.pageB := by
      unfold pageAt
      split <;> rfl
    rw [acceptedBy_page, bookingNamed_eq, hpage] at hr
    dsimp only
    split
    · exact hr.1 _ ‹_›
    · exact hr.2 ‹_›
  · have hr := endsIn_found (c := .readParameter rq a) rfl h (valueCode_cons_ne (by decide) a) (performReadParameter_eq hl _)
    rw [acceptedBy_params] at hr
    split
    · exact hr.1 _ ‹_›
    · exact hr.2 ‹_›
  · subst ha
    exact endsIn_replyOnly (c := .readNotices rq []) rfl h (by decide) rfl
  · have hcode := valueCode_of_unknown hw
    have h28 : valueCode a ≠ 28 := fun h => by rw [h] at hcode; exact absurd hcode (by decide)
    exact endsIn_replyOnly (c := .unknownRequest rq a) rfl h h28 (performCode_unknown hcode ..)
end

section
/-! SUPPORT. The requests that change the point table (R24, R25, R50): the table they leave, what follows a removal, and where they
end. -/

namespace Sys2Proof.Machine

/-! ### Entries by code (R21) -/

/-- R24: an insertion leaves what is found under every other code. -/
theorem find_insertPoint_ne {e : PointEntry} {c : PointCode} (h : c ≠ e.code) (l : List PointEntry) :
    (insertPoint e l).find? (fun x => x.code == c) = l.find? fun x => x.code == c := by
  induction l with
  | nil => simp [insertPoint, h.symm]
  | cons y ys ih =>
    unfold insertPoint
    split
    · rename_i hy
      simp [hy, h.symm]
    · split
      · simp [h.symm]
      · simp [List.find?_cons, ih]

/-- R25: under the code of the removed entries nothing is found, under every other code what was found. -/
theorem find_filter_code (d c : PointCode) (l : List PointEntry) :
    (l.filter fun x => x.code != d).find? (fun x => x.code == c) =
      if c = d then none else l.find? fun x => x.code == c := by
  rw [List.find?_filter]
  split
  · rename_i h
    subst h
    simp
  · rename_i h
    congr 1
    funext x
    by_cases hx : x.code = c <;> simp [hx, h]

theorem findPoint_code {s : State} {c : PointCode} {e : PointEntry} (h : findPoint s c = some e) : e.code = c := by
  simpa using List.find?_some h

/-! ### What follows a removal (R50, R54, R55, R142) -/

/-- R50, R54: a partition keeps its value where its entry did not feed it, or a remaining PARTITION entry still does. -/
theorem keptPartition_eq (a : Attachment) (s : State) : ∃ held : Vector (Option Bool) 3,
    keptPartition a s = { s with partitions := held } ∧ ∀ k : Fin 3, held[k] =
      if a = .partition k ∧ ¬∃ x ∈ s.points, x.role = some .partition ∧ x.attachment = .partition k ∧ x.last ≠ none then none
      else s.partitions[k] := by
  have hany : ∀ p : Fin 3,
      (s.points.any fun e => e.role == some .partition && e.attachment == .partition p && e.last.isSome) = true ↔
        ∃ x ∈ s.points, x.role = some .partition ∧ x.attachment = .partition p ∧ x.last ≠ none := fun p => by
    simp [Option.isSome_iff_ne_none, and_assoc]
  unfold keptPartition
  split
  · rename_i p
    by_cases h : ∃ x ∈ s.points, x.role = some .partition ∧ x.attachment = .partition p ∧ x.last ≠ none
    · refine ⟨s.partitions, if_pos ((hany p).mpr h), fun k => (if_neg ?_).symm⟩
      rintro ⟨hp, hn⟩
      cases hp
      exact hn h
    · refine ⟨s.partitions.set p none, if_neg fun hc => h ((hany p).mp hc), fun k => ?_⟩
      by_cases hk : p = k
      · subst hk
        exact (Vector.getElem_set_self _).trans (if_pos ⟨rfl, h⟩).symm
      · have hv : p.val ≠ k.val := fun h => hk (Fin.ext h)
        exact (Vector.getElem_set_ne _ _ hv).trans (if_neg fun h => hk (Attachment.partition.inj h.1)).symm
  · rename_i h
    exact ⟨s.partitions, rfl, fun k => (if_neg fun hk => h k hk.1).symm⟩

/-- R50, R55: the irradiance keeps its value where no SUN entry left, or a remaining one still feeds it. -/
theorem keptIrradiance_eq (r : Option Role) (s : State) : keptIrradiance r s =
    { s with irradiance := if r = some .sun ∧ ¬∃ x ∈ s.points, x.role = some .sun ∧ x.last ≠ none then none
      else s.irradiance } := by
  have hany : (s.points.any fun e => e.role == some .sun && e.last.isSome) = true ↔
      ∃ x ∈ s.points, x.role = some .sun ∧ x.last ≠ none := by
    simp [Option.isSome_iff_ne_none]
  unfold keptIrradiance
  by_cases hr : r = some .sun <;> by_cases h : ∃ x ∈ s.points, x.role = some .sun ∧ x.last ≠ none <;>
    simp only [hr, hany, h, if_true, if_false, false_and, not_true_eq_false, not_false_eq_true, and_self, and_false]

theorem RoomWork.partitions {s t : State} (h : RoomWork s t) : t.partitions = s.partitions := by rw [h.frame]
theorem RoomWork.irradiance {s t : State} (h : RoomWork s t) : t.irradiance = s.irradiance := by rw [h.frame]
theorem RoomWork.sun {s t : State} (h : RoomWork s t) : t.sun = s.sun := by rw [h.frame]

/-- What a change of the aggregates leaves of the held values and the sun record. -/
theorem evidenceChanged_held (before s : State) : (evidenceChanged before s).partitions = s.partitions ∧
    (evidenceChanged before s).irradiance = s.irradiance ∧ (evidenceChanged before s).sun = s.sun := by
  have h : RoomWork (syncWindows before s) (evidenceChanged before s) :=
    ((refreshPresentations_roomWork _).trans (countChanges_roomWork ..)).trans (windowChanges_roomWork ..)
  exact ⟨h.partitions, h.irradiance, h.sun⟩

/-- R142: an irradiance event without a value only ends the candidates of the sun record. -/
theorem irradianceEvent_none {s : State} (h : s.irradiance = none) :
    irradianceEvent s = { s with sun := { s.sun with highSince := none, lowSince := none } } := by
  simp [irradianceEvent, SunRecord.irradiance, h]

/-- R50, R54, R55, R142: what a removed entry leaves of the held values and the sun record, as the statements say it. -/
def LeftBehind (old : PointEntry) (s t : State) : Prop :=
  (∀ k : Fin 3, t.partitions[k] =
    if old.attachment = .partition k ∧
        ¬∃ x ∈ t.points, x.role = some .partition ∧ x.attachment = .partition k ∧ x.last ≠ none then none
    else s.partitions[k]) ∧
  t.irradiance = (if old.role = some .sun ∧ ¬∃ x ∈ t.points, x.role = some .sun ∧ x.last ≠ none then none
    else s.irradiance) ∧
  t.sun = (if t.irradiance ≠ s.irradiance then { s.sun with highSince := none, lowSince := none } else s.sun)

/-- R50: what follows when an entry has left the table. -/
theorem pointLeft_leftBehind {before s : State} (e : PointEntry) (hi : before.irradiance = s.irradiance) :
    LeftBehind e s (pointLeft before e s) := by
  obtain ⟨held, hf, hp⟩ := keptPartition_eq e.attachment s
  have hk := keptIrradiance_eq e.role (keptPartition e.attachment s)
  have hpl : pointLeft before e s = irradianceLost before (partitionEvents before e.attachment
      (evidenceChanged before (keptIrradiance e.role (keptPartition e.attachment s)))) := rfl
  have hpts : (pointLeft before e s).points = s.points := (pointLeft_event before e s).points
  rw [hf] at hk hpl
  rw [hk] at hpl
  generalize hu : ({ s with partitions := held, irradiance := _ } : State) = u at hpl
  obtain ⟨ep, ei, es⟩ := evidenceChanged_held before u
  have hw := partitionEvents_roomWork before e.attachment (evidenceChanged before u)
  generalize partitionEvents before e.attachment (evidenceChanged before u) = w at hw hpl
  have wp : w.partitions = held := hw.partitions.trans (ep.trans (by rw [← hu]))
  have wi : w.irradiance = if e.role = some .sun ∧ ¬∃ x ∈ s.points, x.role = some .sun ∧ x.last ≠ none then none
      else s.irradiance := hw.irradiance.trans (ei.trans (by rw [← hu]))
  have ws : w.sun = s.sun := hw.sun.trans (es.trans (by rw [← hu]))
  unfold LeftBehind
  rw [hpts, hpl, ← wi]
  unfold irradianceLost
  split
  · rename_i hlost
    simp only [hi, Bool.and_eq_true, Option.isSome_iff_ne_none, Option.isNone_iff_eq_none] at hlost
    obtain ⟨hsome, hnone⟩ := hlost
    rw [irradianceEvent_none hnone]
    refine ⟨fun k => (congrArg (·[k]) wp).trans (hp k), rfl, ?_⟩
    rw [if_pos (by rw [hnone]; exact hsome.symm), ← ws]
  · rename_i hlost
    refine ⟨fun k => (congrArg (·[k]) wp).trans (hp k), rfl, ?_⟩
    rw [if_neg, ws]
    rw [not_not]
    by_contra hne
    have hn : w.irradiance = none := by
      rw [wi] at hne ⊢
      split at hne <;> [simp_all; exact absurd rfl hne]
    refine hlost ?_
    simp only [hi, Bool.and_eq_true, Option.isSome_iff_ne_none, Option.isNone_iff_eq_none]
    exact ⟨fun h => hne (hn.trans h.symm), hn⟩

/-- The same of a state that has the removal's point table, held values and sun record. -/
theorem LeftBehind.congr {old : PointEntry} {s s' t t' : State} (h : LeftBehind old s t)
    (sp : s'.partitions = s.partitions) (si : s'.irradiance = s.irradiance) (ss : s'.sun = s.sun)
    (tp : t'.points = t.points) (tq : t'.partitions = t.partitions) (ti : t'.irradiance = t.irradiance)
    (ts : t'.sun = t.sun) : LeftBehind old s' t' := by
  simpa only [LeftBehind, sp, si, ss, tp, tq, ti, ts] using h

/-! ### An accepted request and the state it leaves (R169, R171) -/

theorem admits_acceptedBy {rq : Requester} {v : List Byte} {s : State} (h : Accepted rq v s) :
    admits rq.port false (acceptedBy rq v s) = true := by
  obtain ⟨hr, -, -, -, hq⟩ := h
  simp only [receiving, Bool.and_eq_true] at hr
  simp [admits, hasRoom, hr.1, hq]

/-- R12: an event of the room takes no place in a queue. -/
theorem RoomEvent.admits {s t : State} (h : RoomEvent s t) (p : Port) (r : Bool) : admits p r t = admits p r s := by
  have hq : (t.room.queue.map Queued.envelope).length = (s.room.queue.map Queued.envelope).length := congrArg _ h.queue
  have hr := relayedCount_of_envelope h.queue
  have hu : t.room.up = s.room.up := by rw [h.frame]
  simp only [List.length_map] at hq
  cases p with
  | room =>
    show (t.room.up && hasRoom .room r t.room.queue) = (s.room.up && hasRoom .room r s.room.queue)
    rw [hu, hasRoom, hq, hr, hasRoom]
  | trunk => simp only [Machine.admits, State.port_trunk, h.trunk]

/-- R169, R171: what an accepted request answers whose performance leaves its port a place. -/
theorem exec_performed {c : Instr} {rq : Requester} {v : List Byte} {s x : State} {r : Result} {data : List Byte}
    (hc : c.requestOf = some (rq, v)) (h : Accepted rq v s) (h28 : valueCode v ≠ 28)
    (hp : performCode rq (valueCode v) v.tail (acceptedBy rq v s) = (x, some (r, data)))
    (ha : admits rq.port false x = true) : exec c s = .next (settle (withReply rq (valueCode v) r data x)) := by
  rw [exec_of_requestOf hc, requested, event_eq, request_accepted h, hp, replyTo_admitted h28 ha]

/-- R171: a reply and the offers behind it touch neither the points nor the held values, and keep the outbound indices. -/
theorem settle_withReply_kept (rq : Requester) (code : Byte) (r : Result) (data : List Byte) (x : State) :
    let t := settle (withReply rq code r data x)
    t.points = x.points ∧ t.partitions = x.partitions ∧ t.irradiance = x.irradiance ∧ t.sun = x.sun ∧
      t.outputs.map (·.index) = x.outputs.map (·.index) := by
  have hf : OffersFrame x (settle (withReply rq code r data x)) :=
    ((withReply_offered rq code r data x).trans (settle_offered _)).frame
  have hi : (withReply rq code r data x).outputs = x.outputs := by simp [withReply]
  refine ⟨by rw [hf], by rw [hf], by rw [hf], by rw [hf], ?_⟩
  exact (settle_keeps _).map_index.trans (by rw [hi])

/-! ### LOAD_POINT and DELETE_POINT -/

theorem findPoint_acceptedBy (rq : Requester) (v : List Byte) (s : State) (c : PointCode) :
    findPoint (acceptedBy rq v s) c = findPoint s c := by simp only [findPoint, acceptedBy_points]

theorem pointCodeTaken_acceptedBy (rq : Requester) (v : List Byte) (s : State) (c : PointCode) :
    pointCodeTaken (acceptedBy rq v s) c = pointCodeTaken s c := by
  simp only [pointCodeTaken, outputOfCode, isReportPoint, noticeCode, statusCode, acceptedBy_outputs, acceptedBy_params]

/-- R24: whether the table is full for a code, as the statements say it. -/
theorem pointTableFull_iff {s : State} {c : PointCode} :
    pointTableFull s c = true ↔ findPoint s c = none ∧ 384 ≤ s.points.length := by
  simp [pointTableFull, Option.isNone_iff_eq_none]

/-- R24: a LOAD_POINT that passes every test. -/
theorem performLoadPoint_ok {a : List Byte} {u : State} (hl : a.length = 23) (hh : u.hold = true)
    (hc : pointConsistent a = true) (hr : pointInRange a = true) (ht : pointCodeTaken u (pointOf a).code = false)
    (hf : pointTableFull u (pointOf a).code = false) :
    performLoadPoint a u = done [] (loadPointEntry (pointOf a) u) := by
  unfold performLoadPoint
  rw [firstFailing_none (by simp [hl, hh, hc, hr, ht, hf]), tested_none]

/-- R24, R50: a loaded entry changes the table by its insertion; what follows is an event of the room. -/
theorem loadPointEntry_event (e : PointEntry) (s : State) :
    RoomEvent { s with points := insertPoint e s.points } (loadPointEntry e s) := by
  unfold loadPointEntry
  split
  · exact pointLeft_event ..
  · exact .refl _

theorem loadPointEntry_new {e : PointEntry} {s : State} (h : findPoint s e.code = none) :
    loadPointEntry e s = { s with points := insertPoint e s.points } := by
  simp only [loadPointEntry, h]

theorem loadPointEntry_replaced {e old : PointEntry} {s : State} (h : findPoint s e.code = some old) :
    LeftBehind old s (loadPointEntry e s) := by
  have hp : loadPointEntry e s = pointLeft s old { s with points := insertPoint e s.points } := by
    simp only [loadPointEntry, h]
  have h := pointLeft_leftBehind (before := s) (s := { s with points := insertPoint e s.points }) old rfl
  rw [hp]
  generalize pointLeft s old { s with points := insertPoint e s.points } = t at h
  exact h.congr rfl rfl rfl rfl rfl rfl rfl

/-- R25: a DELETE_POINT of a code that passes its tests. -/
theorem performDeletePoint_eq {a : List Byte} {u : State} (hl : a.length = 2) (hh : u.hold = true) (hc : u16 a 0 ≤ 4095) :
    (∀ e, findPoint u (BitVec.ofNat 12 (u16 a 0)) = some e → performDeletePoint a u = done [] (removePoint e u)) ∧
      (findPoint u (BitVec.ofNat 12 (u16 a 0)) = none → performDeletePoint a u = refuse .notFound u) := by
  unfold performDeletePoint
  rw [firstFailing_none (by simp [hl, hh, hc])]
  exact ⟨fun e he => by simp only [tested_none, he], fun hn => by simp only [tested_none, hn]⟩

/-- R24: where an accepted LOAD_POINT passes its tests the table holds its entry, and the others as they were. -/
theorem loadPoint_loaded {rq : Requester} {a : List Byte} {s : State} (hs : PointsSound s) (h : Accepted rq (3 :: a) s)
    (hp : performLoadPoint a (acceptedBy rq (3 :: a) s) = done [] (loadPointEntry (pointOf a) (acceptedBy rq (3 :: a) s)))
    (hf : pointTableFull s (pointOf a).code = false) :
    ∃ t, exec (.loadPoint rq a) s = .next t ∧ Replied rq 3 .ok [] t ∧ PointsSound t ∧
      findPoint t (pointOf a).code = some (pointOf a) ∧ (∀ c, c ≠ (pointOf a).code → findPoint t c = findPoint s c) ∧
      t.outputs.map (·.index) = s.outputs.map (·.index) ∧
      ∀ old, findPoint s (pointOf a).code = some old → LeftBehind old s t := by
  have hu := acceptedBy_frame rq (3 :: a) s
  have hfound := findPoint_acceptedBy rq (3 :: a) s (pointOf a).code
  have hadm := admits_acceptedBy h
  have hx := exec_performed (c := .loadPoint rq a) rfl h (valueCode_cons_ne (by decide) a) hp
  generalize acceptedBy rq (3 :: a) s = u at hp hu hfound hadm hx
  have he := loadPointEntry_event (pointOf a) u
  have hleft := fun old (hold : findPoint u (pointOf a).code = some old) => loadPointEntry_replaced hold
  generalize loadPointEntry (pointOf a) u = x at he hleft hx
  have hxp : x.points = insertPoint (pointOf a) s.points := he.points.trans (by rw [hu])
  have hxo : x.outputs.map (·.index) = s.outputs.map (·.index) := he.keeps.map_index.trans (by rw [hu])
  obtain ⟨tp, tq, ti, ts, tout⟩ := settle_withReply_kept rq (valueCode (3 :: a)) .ok [] x
  refine ⟨_, hx ((he.admits rq.port false).trans hadm), replied_settle .., ?_, ?_, fun c hc => ?_, tout.trans hxo,
    fun old hold => ?_⟩
  · rw [PointsSound, tp, hxp]
    exact insertPoint_sound hs hf
  · rw [findPoint, tp, hxp]
    exact find_insertPoint_self ..
  · rw [findPoint, tp, hxp]
    exact find_insertPoint_ne hc _
  · exact (hleft old (hfound.trans hold)).congr (by rw [hu]) (by rw [hu]) (by rw [hu]) tp tq ti ts

/-- R25: where an accepted DELETE_POINT finds its entry the table is without it, and the others as they were. -/
theorem deletePoint_removed {rq : Requester} {a : List Byte} {s : State} {e : PointEntry} (h : Accepted rq (4 :: a) s)
    (hp : performDeletePoint a (acceptedBy rq (4 :: a) s) = done [] (removePoint e (acceptedBy rq (4 :: a) s))) :
    ∃ t, exec (.deletePoint rq a) s = .next t ∧ Replied rq 4 .ok [] t ∧ findPoint t e.code = none ∧ LeftBehind e s t ∧
      ∀ c, c ≠ e.code → findPoint t c = findPoint s c := by
  have hu := acceptedBy_frame rq (4 :: a) s
  have hadm := admits_acceptedBy h
  have hx := exec_performed (c := .deletePoint rq a) rfl h (valueCode_cons_ne (by decide) a) hp
  generalize acceptedBy rq (4 :: a) s = u at hp hu hadm hx
  have hev : RoomEvent { u with points := u.points.filter fun x => x.code != e.code } (removePoint e u) := pointLeft_event ..
  have hleft : LeftBehind e { u with points := u.points.filter fun x => x.code != e.code } (removePoint e u) :=
    pointLeft_leftBehind e rfl
  generalize removePoint e u = x at hev hleft hx
  have hxp : x.points = s.points.filter fun x => x.code != e.code := hev.points.trans (by rw [hu])
  obtain ⟨tp, tq, ti, ts, -⟩ := settle_withReply_kept rq (valueCode (4 :: a)) .ok [] x
  refine ⟨_, hx ((hev.admits rq.port false).trans hadm), replied_settle .., ?_,
    hleft.congr (by rw [hu]) (by rw [hu]) (by rw [hu]) tp tq ti ts, fun c hc => ?_⟩
  · rw [findPoint, tp, hxp, find_filter_code]
    exact if_pos rfl
  · rw [findPoint, tp, hxp, find_filter_code]
    exact if_neg hc

end Sys2Proof.Machine

open Sys2Proof Sys2Proof.Machine

/-- Settles O48: what the two requests leave where their tests pass (loadPoint_loaded, deletePoint_removed), and for each refusal
the first test that fails. -/
theorem pointsAreLoadedAndDeleted : Obligations.PointsAreLoadedAndDeleted := by
  intro rq a s hs left
  refine ⟨?_, ?_⟩
  · intro h u answers code
    have huf : findPoint u (pointOf a).code = findPoint s (pointOf a).code := findPoint_acceptedBy ..
    have hut : pointCodeTaken u (pointOf a).code = pointCodeTaken s (pointOf a).code := pointCodeTaken_acceptedBy ..
    have hfull : pointTableFull u (pointOf a).code = pointTableFull s (pointOf a).code := by
      rw [pointTableFull, huf, acceptedBy_points, pointTableFull]
    have refused : ∀ r, performLoadPoint a u = refuse r u → answers r := fun r hp =>
      endsIn_replyOnly (c := .loadPoint rq a) rfl h (valueCode_cons_ne (by decide) a) hp
    refine ⟨fun hl hh hc hr ht hf => ?_, fun hl => refused _ ?_, fun hl hh => refused _ ?_,
      fun hl hh hc => refused _ ?_, fun hl hh hc hr => refused _ ?_, fun hl hh hc hr ht => refused _ ?_,
      fun hl hh hc hr ht hn hf => refused _ ?_⟩
    · have hplace : pointTableFull s (pointOf a).code = false := by
        rw [← Bool.not_eq_true, pointTableFull_iff]
        rintro ⟨hn, hlen⟩
        exact hf.elim (fun hs => by rw [hn] at hs; cases hs) (by omega)
      have hp := performLoadPoint_ok hl hh hc hr (hut.trans ht) (hfull.trans hplace)
      refine ⟨loadPoint_loaded hs h hp hplace, fun hn => ?_⟩
      have hx := loadPointEntry_new (huf.trans hn)
      rw [hx, acceptedBy_points] at hp
      exact endsIn_reply (exec_of_requestOf (c := .loadPoint rq a) rfl s) h (valueCode_cons_ne (by decide) a) hp
        (acceptedBy_port ..)
    · simp [performLoadPoint, firstFailing, hl]
    · simp [performLoadPoint, firstFailing, hl, hh]
    · simp [performLoadPoint, firstFailing, hl, hh, hc]
    · simp [performLoadPoint, firstFailing, hl, hh, hc, hr]
    · simp [performLoadPoint, firstFailing, hl, hh, hc, hr, hut.trans ht]
    · have hfull' := hfull.trans (pointTableFull_iff.mpr ⟨hn, hf⟩)
      simp [performLoadPoint, firstFailing, hl, hh, hc, hr, hut.trans ht, hfull']
  · intro h u answers
    have huf : ∀ c, findPoint u c = findPoint s c := findPoint_acceptedBy rq (4 :: a) s
    have refused : ∀ r, performDeletePoint a u = refuse r u → answers r := fun r hp =>
      endsIn_replyOnly (c := .deletePoint rq a) rfl h (valueCode_cons_ne (by decide) a) hp
    refine ⟨fun e hl hh hc he => ?_, fun hl => refused _ ?_, fun hl hh => refused _ ?_, fun hl hh hc => refused _ ?_,
      fun hl hh hc hn => refused _ ((performDeletePoint_eq hl hh hc).2 ((huf _).trans hn))⟩
    · rw [← findPoint_code he]
      exact deletePoint_removed h ((performDeletePoint_eq hl hh hc).1 e ((huf _).trans he))
    · simp [performDeletePoint, firstFailing, hl]
    · simp [performDeletePoint, firstFailing, hl, hh]
    · simp [performDeletePoint, firstFailing, hl, hh, hc]
end

section
/-! SUPPORT. Bytes at the places of a reply (R173): what a chunk of bytes at a place says of the fields read there. -/

namespace Sys2Proof.Machine

/-! ### A chunk at a place -/

/-- R173: the bytes `c` stand in `d` from place `i` on. -/
def StandsAt (d : List Byte) (i : Nat) (c : List Byte) : Prop := c <+: d.drop i

@[simp] theorem standsAt_self (c : List Byte) : StandsAt c 0 c := ⟨[], List.append_nil c⟩

@[simp] theorem standsAt_append_self (c m : List Byte) : StandsAt (c ++ m) 0 c := ⟨m, rfl⟩

@[simp] theorem standsAt_cons_self (b : Byte) (m : List Byte) : StandsAt (b :: m) 0 [b] := standsAt_append_self [b] m

@[simp] theorem standsAt_append {l m c : List Byte} {i : Nat} (h : l.length ≤ i) :
    StandsAt (l ++ m) i c ↔ StandsAt m (i - l.length) c := by
  rw [StandsAt, List.drop_append, List.drop_eq_nil_of_le h, List.nil_append, StandsAt]

@[simp] theorem standsAt_cons (b : Byte) (m c : List Byte) (i : Nat) : StandsAt (b :: m) (i + 1) c ↔ StandsAt m i c := Iff.rfl

theorem StandsAt.left {d c m : List Byte} {i : Nat} (h : StandsAt d i (c ++ m)) : StandsAt d i c := by
  obtain ⟨r, hr⟩ := h
  exact ⟨m ++ r, by rw [← List.append_assoc, hr]⟩

/-- A part of a chunk stands where the chunk stands, as far on as the part lies in it. -/
theorem StandsAt.within {d c e : List Byte} {i j : Nat} (h : StandsAt d i c) (he : StandsAt c j e) (hj : j ≤ c.length) :
    StandsAt d (i + j) e := by
  obtain ⟨m, hm⟩ := h
  refine he.trans ⟨m, ?_⟩
  rw [← List.drop_drop, ← hm, List.drop_append_of_le_length hj]

theorem StandsAt.u8_at {d c : List Byte} {i k : Nat} (h : StandsAt d i c) (hk : k < c.length) : u8 d (i + k) = u8 c k := by
  obtain ⟨m, hm⟩ := h
  have hd : d.getD (i + k) 0 = (d.drop i).getD k 0 := by simp [List.getD_eq_getElem?_getD]
  rw [u8, hd, ← hm, List.getD_append _ _ _ _ hk, u8]

theorem StandsAt.u16_at {d c : List Byte} {i k : Nat} (h : StandsAt d i c) (hk : k + 1 < c.length) :
    u16 d (i + k) = u16 c k := by
  rw [u16, h.u8_at (by omega), Nat.add_assoc, h.u8_at hk, u16]

theorem StandsAt.u32_at {d c : List Byte} {i k : Nat} (h : StandsAt d i c) (hk : k + 3 < c.length) :
    u32 d (i + k) = u32 c k := by
  rw [u32, h.u16_at (by omega), Nat.add_assoc, h.u16_at (by omega), u32]

/-! ### The numbers a chunk carries -/

theorem toNat_byteOf_mod (n : Nat) : (byteOf n).toNat = n % 256 := by simp [byteOf]

@[simp] theorem length_be16 (n : Nat) : (be16 n).length = 2 := by simp [be16]
@[simp] theorem length_be32 (n : Nat) : (be32 n).length = 4 := by simp [be32]
@[simp] theorem length_flag8 (b : Bool) : (flag8 b).length = 1 := by simp [flag8]

theorem u16_be16 (n : Nat) : u16 (be16 n) 0 = n % 65536 := by
  show (byteOf (n / 256)).toNat * 256 + (byteOf n).toNat = _
  rw [toNat_byteOf_mod, toNat_byteOf_mod]
  omega

theorem u32_be32 (n : Nat) : u32 (be32 n) 0 = n % 4294967296 := by
  show ((byteOf (n / 16777216)).toNat * 256 + (byteOf (n / 65536)).toNat) * 65536 +
    ((byteOf (n / 256)).toNat * 256 + (byteOf n).toNat) = _
  simp only [toNat_byteOf_mod]
  omega

theorem opt8_eq (v : Option Nat) : opt8 v = [byteOf (v.getD 255)] := by cases v <;> rfl
theorem opt16_eq (v : Option Nat) : opt16 v = be16 (v.getD 65535) := by cases v <;> rfl

@[simp] theorem length_opt8 (v : Option Nat) : (opt8 v).length = 1 := by rw [opt8_eq]; rfl
@[simp] theorem length_opt16 (v : Option Nat) : (opt16 v).length = 2 := by rw [opt16_eq]; rfl

/-- R173, log 16: an optional second is one 4-byte quantity: itself where it fits, and all bits 1 for none. -/
theorem optSecond_eq (v : Option Nat) : ∃ n, optSecond v = be32 n ∧ (v = none → n = 4294967295) ∧
    ∀ t, v = some t → t < 4294967295 → n = t := by
  cases v with
  | none => exact ⟨4294967295, rfl, fun _ => rfl, nofun⟩
  | some t =>
    by_cases h : t < 4294967295
    · refine ⟨t, ?_, nofun, fun u hu _ => Option.some.inj hu⟩
      rw [optSecond, second32, if_neg (by omega), if_pos (by omega)]
    · have hn : ∃ n, optSecond (some t) = be32 n := by
        rw [optSecond, second32]
        split_ifs <;> exact ⟨_, rfl⟩
      obtain ⟨n, hn⟩ := hn
      exact ⟨n, hn, nofun, fun u hu hlt => absurd (Option.some.inj hu ▸ hlt) h⟩

@[simp] theorem length_optSecond (v : Option Nat) : (optSecond v).length = 4 := by
  obtain ⟨n, hn, -⟩ := optSecond_eq v
  rw [hn]
  rfl

@[simp] theorem length_signed16 (n : Int) : (signed16 n).length = 2 := by simp [signed16]
@[simp] theorem length_signed32 (n : Int) : (signed32 n).length = 4 := by simp [signed32]

/-! ### What a chunk at a place says of the field there -/

theorem StandsAt.byte {d : List Byte} {i : Nat} {b : Byte} (h : StandsAt d i [b]) : u8 d i = b.toNat :=
  h.u8_at (k := 0) Nat.one_pos

theorem StandsAt.of_byteOf {d : List Byte} {i n : Nat} (h : StandsAt d i [byteOf n]) : u8 d i = n % 256 :=
  h.byte.trans (toNat_byteOf_mod n)

theorem StandsAt.of_byteOf_lt {d : List Byte} {i n : Nat} (h : StandsAt d i [byteOf n]) (hn : n < 256) :
    u8 d i = n := h.of_byteOf.trans (Nat.mod_eq_of_lt hn)

theorem StandsAt.of_be16 {d : List Byte} {i n : Nat} (h : StandsAt d i (be16 n)) : u16 d i = n % 65536 :=
  (h.u16_at (k := 0) (by simp)).trans (u16_be16 n)

theorem StandsAt.of_be16_lt {d : List Byte} {i n : Nat} (h : StandsAt d i (be16 n)) (hn : n < 65536) :
    u16 d i = n := h.of_be16.trans (Nat.mod_eq_of_lt hn)

theorem StandsAt.of_be32 {d : List Byte} {i n : Nat} (h : StandsAt d i (be32 n)) : u32 d i = n % 4294967296 :=
  (h.u32_at (k := 0) (by simp)).trans (u32_be32 n)

theorem StandsAt.flag {d : List Byte} {i : Nat} {b : Bool} (h : StandsAt d i (flag8 b)) :
    u8 d i = if b then 1 else 0 := h.byte.trans (by cases b <;> rfl)

theorem StandsAt.of_opt8 {d : List Byte} {i : Nat} {v : Option Nat} (h : StandsAt d i (opt8 v)) : ByteAt d i v := by
  rw [opt8_eq] at h
  exact h.of_byteOf

theorem StandsAt.of_opt16 {d : List Byte} {i : Nat} {v : Option Nat} (h : StandsAt d i (opt16 v)) : FieldAt d i v := by
  rw [opt16_eq] at h
  exact h.of_be16

theorem StandsAt.second {d : List Byte} {i : Nat} {v : Option Nat} (h : StandsAt d i (optSecond v)) : SecondAt d i v := by
  obtain ⟨n, hn, h0, h1⟩ := optSecond_eq v
  rw [hn] at h
  cases v with
  | none => exact h.of_be32.trans (by rw [h0 rfl])
  | some t => exact fun ht => h.of_be32.trans (by rw [h1 t rfl ht, Nat.mod_eq_of_lt (by omega)])

/-- R173: two's complement: the unsigned quantity is the signed one modulo its width. -/
theorem StandsAt.of_signed32 {d : List Byte} {i : Nat} {n : Int} (h : StandsAt d i (signed32 n)) :
    ((u32 d i : Int) - n) % 4294967296 = 0 := by
  rw [StandsAt.of_be32 h, BitVec.toNat_ofInt]
  omega

theorem StandsAt.of_signed16 {d : List Byte} {i : Nat} {n : Int} (h : StandsAt d i (signed16 n)) :
    ((u16 d i : Int) - n) % 65536 = 0 := by
  rw [StandsAt.of_be16 h, BitVec.toNat_ofInt]
  omega

end Sys2Proof.Machine
end

section
/-! SUPPORT. The layouts of the replies (R173): the chunks of each reply, their lengths and their places. -/

namespace Sys2Proof.Machine

/-! ### READ_POINT -/

@[simp] theorem length_unstatedBytes (code key first stop : Nat) : (unstatedBytes code key first stop).length = stop - first := by
  simp [unstatedBytes]

@[simp] theorem length_attachmentBytes (a : Attachment) : a.bytes.length = 4 := by
  cases a <;> simp [Attachment.bytes, allZones]

@[simp] theorem length_mapBytes (c : PointCode) (m : Option RangeMap) : (mapBytes c m).length = 9 := by
  cases m <;> simp [mapBytes]

@[simp] theorem length_staticBytes (e : PointEntry) : e.staticBytes.length = 23 := by simp [PointEntry.staticBytes]

/-- R173, log 17: the two bytes of a single last value. -/
theorem lastValueBytes_eq (v : Option LastValue) : ∃ n, lastValueBytes v = be16 n ∧ (∀ k, v = some (.number k) → n = k) ∧
    (v = none → n = 65535) := by
  match v with
  | some (.number k) => exact ⟨k, rfl, fun m h => by cases h; rfl, nofun⟩
  | some (.bytes b) => exact ⟨(Config.lastValueField b).toNat, rfl, nofun, nofun⟩
  | none => exact ⟨65535, rfl, nofun, fun _ => rfl⟩

@[simp] theorem length_lastValueBytes (v : Option LastValue) : (lastValueBytes v).length = 2 := by
  obtain ⟨n, hn, -⟩ := lastValueBytes_eq v
  rw [hn, length_be16]

@[simp] theorem length_valueBytes (e : PointEntry) : e.valueBytes.length = 8 := by
  unfold PointEntry.valueBytes
  split <;> simp [allZones]

/-- R173: the 37 bytes of READ_POINT in their order. -/
theorem pointReply_stands (e : PointEntry) : let d := e.replyBytes
    d.length = 37 ∧ d.take 23 = e.staticBytes ∧ StandsAt d 23 [byteOf e.supervision.code] ∧
      StandsAt d 24 (flag8 e.outOfSpan) ∧ StandsAt d 25 (optSecond e.lastArrival) ∧ StandsAt d 29 e.valueBytes := by
  simp [PointEntry.replyBytes]

/-- R173: a statement about the four lanes, zones or channels. -/
theorem forall_fin4 {P : Fin 4 → Prop} : (∀ k, P k) ↔ P 0 ∧ P 1 ∧ P 2 ∧ P 3 :=
  Fin.forall_fin_succ.trans (and_congr_right fun _ => Fin.forall_fin_succ.trans (and_congr_right fun _ => Fin.forall_fin_two))

theorem forall_fin3 {P : Fin 3 → Prop} : (∀ k, P k) ↔ P 0 ∧ P 1 ∧ P 2 :=
  Fin.forall_fin_succ.trans (and_congr_right fun _ => Fin.forall_fin_two)

/-- R48, R173: the four values of a lane entry. -/
theorem valueBytes_lanes {e : PointEntry} {m : PerZone (Option Zone)} (h : e.attachment = .lanes m) (k : Fin 4) :
    StandsAt e.valueBytes (2 * k.val) (opt16 e.lanes[k]) := by
  simp only [PointEntry.valueBytes, h]
  revert k
  simp [forall_fin4, allZones]

/-- R48, R173: the one value of another entry, with three places behind it unused. -/
theorem valueBytes_single {e : PointEntry} (h : ∀ m, e.attachment ≠ .lanes m) :
    StandsAt e.valueBytes 0 (lastValueBytes e.last) ∧ StandsAt e.valueBytes 2 (be16 65535) ∧
      StandsAt e.valueBytes 4 (be16 65535) ∧ StandsAt e.valueBytes 6 (be16 65535) := by
  have hv : e.valueBytes = lastValueBytes e.last ++ be16 65535 ++ be16 65535 ++ be16 65535 := by
    cases ha : e.attachment with
    | lanes m => exact absurd ha (h m)
    | none | zones | partition => simp only [PointEntry.valueBytes, ha, List.append_assoc]; rfl
  simp [hv]

/-! ### READ_ZONE -/

@[simp] theorem length_zoneConfigBytes (c : Option ZoneConfig) : (zoneConfigBytes c).length = 11 := by
  cases c <;> simp [zoneConfigBytes]

@[simp] theorem length_partitionByte (v : Option Bool) : (partitionByte v).length = 1 := length_opt8 _
@[simp] theorem length_blindBytes (p : Option BlindPosition) : (blindBytes p).length = 4 := by simp [blindBytes]

theorem zonePart0_stands (s : State) (z : Zone) : let d := zonePart0 s z
    d.length = 22 ∧ d.take 11 = zoneConfigBytes s.zones[z] ∧ StandsAt d 11 [byteOf s.overrides[z].mode.code] ∧
      StandsAt d 12 (optSecond s.overrides[z].expiry) ∧ StandsAt d 16 (opt16 s.views[z].active) ∧
      StandsAt d 18 (opt16 (s.views[z].upcoming.map (·.id))) ∧ StandsAt d 20 (opt16 s.views[z].toNext) := by
  simp [zonePart0]

theorem zonePart1_stands (s : State) (z : Zone) : let d := zonePart1 s z
    d.length = 25 ∧ StandsAt d 0 (optSecond s.evidence[z].lastPresence) ∧ StandsAt d 4 (optSecond s.evidence[z].pendingTime) ∧
      StandsAt d 8 (optSecond s.evidence[z].windowOpenedAt) ∧ StandsAt d 12 (opt16 (seatCount s z)) ∧
      StandsAt d 14 (opt16 (co2Of s z)) ∧ StandsAt d 16 (opt16 (luxOf s z)) ∧ StandsAt d 18 (flag8 (windowOpen s z)) ∧
      StandsAt d 19 (flag8 (projectorOn s z)) ∧ (∀ k : Fin 3, StandsAt d (20 + k.val) (partitionByte s.partitions[k])) ∧
      StandsAt d 23 (opt16 s.irradiance) := by
  simp [zonePart1, forall_fin3]

theorem zonePart3_stands (r : AirRecord) : let d := zonePart3 r
    d.length = 20 ∧ StandsAt d 0 (signed32 r.integrator) ∧ StandsAt d 4 (flag8 r.limited) ∧ StandsAt d 5 (be16 r.dOut) ∧
      StandsAt d 7 (be16 r.allowance) ∧ StandsAt d 9 (opt16 r.dTarget) ∧ StandsAt d 11 (opt16 r.command) ∧
      StandsAt d 13 (opt8 (r.thermal.map Thermal.code)) ∧ StandsAt d 14 (be32 r.dBase) ∧ StandsAt d 18 (signed16 r.eEff) := by
  simp [zonePart3]

theorem zonePart2_stands (l : Zone) (g : Group) : let d := zonePart2 l g
    d.length = 38 ∧ StandsAt d 0 [byteOf l.val] ∧ StandsAt d 1 [byteOf (zoneSetByte (memberSet g.members))] ∧
      StandsAt d 2 [byteOf g.state.code] ∧ StandsAt d 3 [byteOf g.effOverride.code] ∧
      StandsAt d 4 (optSecond g.overrideExpiry) ∧ StandsAt d 8 (be16 g.reportedBooking) ∧
      StandsAt d 10 (opt16 (g.booking.upcoming.map (·.id))) ∧
      StandsAt d 12 (opt16 (g.booking.upcoming.map fun u => u.start % 1440)) ∧ StandsAt d 14 (be16 g.booking.expected) ∧
      StandsAt d 16 (opt8 (g.booking.session.map Session.code)) ∧ StandsAt d 17 [byteOf g.booking.profile] ∧
      StandsAt d 18 [byteOf (g.attended.toNat + 2 * g.presentation.toNat + 4 * g.reportPending.toNat)] ∧
      StandsAt d 19 (optSecond g.pendingSince) ∧ StandsAt d 23 (optSecond g.lastPresence) ∧
      StandsAt d 27 (optSecond g.holdoverDeadline) ∧ StandsAt d 31 (optSecond g.noShowDeadline) ∧
      StandsAt d 35 (be16 g.headCount) ∧ StandsAt d 37 [selectionByte g.manualScene] := by
  simp [zonePart2]

theorem zonePart4_stands (r : LightRecord) (sun : SunRecord) : let d := zonePart4 r sun
    d.length = 38 ∧ StandsAt d 0 [selectionByte r.scene] ∧ StandsAt d 1 [byteOf (modeFlags r sun)] ∧
      (∀ ch : Fin 4, StandsAt d (2 + 2 * ch.val) (be16 r.levels[ch])) ∧ StandsAt d 10 (optSecond r.fadeEnd) ∧
      StandsAt d 14 (opt16 (r.blindTarget.map (·.height))) ∧ StandsAt d 16 (opt16 (r.blindTarget.map (·.slat))) ∧
      StandsAt d 18 (opt16 (r.blindSent.map (·.height))) ∧ StandsAt d 20 (opt16 (r.blindSent.map (·.slat))) ∧
      StandsAt d 22 (optSecond r.lastSend) ∧ StandsAt d 26 (optSecond r.motionEnd) ∧
      StandsAt d 30 (optSecond sun.highSince) ∧ StandsAt d 34 (optSecond sun.lowSince) := by
  simp [zonePart4, blindBytes, forall_fin4]

/-- R143, R173: a scene selection in one byte. -/
theorem StandsAt.selection {d : List Byte} {i : Nat} {v : Option Selection} (h : StandsAt d i [selectionByte v]) :
    ByteAt d i (v.map fun x => match x with
      | .off => 0
      | .scene n => n) := by
  refine h.byte.trans ?_
  match v with
  | none => rfl
  | some .off => rfl
  | some (.scene n) => exact toNat_byteOf_mod n

/-! ### READ_OUTPUT -/

theorem length_encode_le (f : OutFunction) (v : OutValue) : (f.encode v).length ≤ 3 := by
  cases f <;> simp [OutFunction.encode]

@[simp] theorem length_outValue3 (f : OutFunction) (n place : Nat) (v : Option OutValue) :
    (outValue3 f n place v).length = 3 := by
  have h : ∀ l : List Byte, l.length ≤ 3 → (l ++ unstatedBytes 10 n (place + l.length) (place + 3)).length = 3 := by
    intro l hl
    simp only [List.length_append, length_unstatedBytes]
    omega
  cases v with
  | none => exact h [255] (by decide)
  | some v => exact h _ (length_encode_le f v)

/-- R157, R173: the value bytes of an entry's function, or 255 for none. -/
theorem StandsAt.outValue {d : List Byte} {i n place : Nat} {f : OutFunction} {v : Option OutValue}
    (h : StandsAt d i (outValue3 f n place v)) : ValueAt d i f v := by
  cases v with
  | none => exact (StandsAt.left (c := [255]) h).byte
  | some v =>
    have he : StandsAt d i (f.encode v) := StandsAt.left h
    cases f with
    | airflow | blindHeight | blindSlat => exact StandsAt.of_be16 he
    | thermalMode => exact StandsAt.of_byteOf he
    | lightWindow | lightMiddle | lightCorridor | lightBoard =>
      have hfade := he.u8_at (k := 2) (by simp [OutFunction.encode])
      exact ⟨(StandsAt.left (c := be16 v.quantity) he).of_be16, hfade.trans (toNat_byteOf_mod v.fade)⟩

theorem outputReply_stands (e : OutEntry) : let d := e.replyBytes
    d.length = 28 ∧ StandsAt d 0 [byteOf e.index.val] ∧ StandsAt d 1 (be16 e.code.toNat) ∧ StandsAt d 3 [byteOf e.zone.val] ∧
      StandsAt d 4 [byteOf e.function.code] ∧ StandsAt d 5 [byteOf e.deadband] ∧ StandsAt d 6 (be16 e.refresh) ∧
      StandsAt d 8 [byteOf e.state.code] ∧ StandsAt d 9 [byteOf (e.toggle.toNat + 2 * e.exposed.toNat)] ∧
      StandsAt d 10 (outValue3 e.function e.index.val 10 e.computed) ∧
      StandsAt d 13 (outValue3 e.function e.index.val 13 e.sent) ∧
      StandsAt d 16 (outValue3 e.function e.index.val 16 e.confirmed) ∧
      StandsAt d 19 (outValue3 e.function e.index.val 19 e.next) ∧ StandsAt d 22 [byteOf e.retries] ∧
      StandsAt d 23 [byteOf e.busies] ∧ StandsAt d 24 (optSecond e.timer) := by
  simp [OutEntry.replyBytes]

/-! ### READ_NOTICES -/

@[simp] theorem length_noticeDetail (n : Notice) : (noticeDetail n).length = 3 := by
  unfold noticeDetail
  split <;> simp [be24]

theorem noticeBytes_stand (s : State) : (noticeBytes s).length = 38 ∧ StandsAt (noticeBytes s) 0 (be16 (noticeFlags s)) ∧
    ∀ k : NoticeKind, StandsAt (noticeBytes s) (2 + 3 * k.code.val) (noticeDetail (s.notice k)) := by
  refine ⟨by simp [noticeBytes], by simp [noticeBytes], fun k => ?_⟩
  cases k <;> simp [noticeBytes, NoticeKind.code]

/-- R177, R180: the number a detail carries. -/
theorem noticeDetail_number (n : Notice) :
    u8 (noticeDetail n) 0 * 65536 + u16 (noticeDetail n) 1 = if n.flag then (n.detail.getD 0).toNat else 0 := by
  unfold noticeDetail
  split
  · have hn : (n.detail.getD 0).toNat < 2 ^ 24 := (n.detail.getD 0).isLt
    show (byteOf _).toNat * 65536 + ((byteOf _).toNat * 256 + (byteOf _).toNat) = _
    simp only [toNat_byteOf_mod]
    omega
  · rfl

/-- R180: the flags are bits 0 to 11. -/
theorem noticeFlags_eq (s : State) : noticeFlags s = Nat.ofBits fun c : Fin 12 => s.notices[c].flag := by
  have hb : ∀ k : NoticeKind, (if (s.notice k).flag then 2 ^ k.code.val else 0) = 2 ^ k.code.val * (s.notice k).flag.toNat :=
    fun k => by cases (s.notice k).flag <;> simp
  simp only [noticeFlags, hb]
  simp [NoticeKind.code, State.notice, Nat.ofBits_succ]
  omega

theorem testBit_noticeFlags (s : State) (k : NoticeKind) : (noticeFlags s).testBit k.code.val = (s.notice k).flag := by
  rw [noticeFlags_eq, Nat.testBit_ofBits_lt _ _ k.code.isLt]
  rfl

/-! ### Sets as bits (R173) -/

theorem zoneSetByte_eq (set : PerZone Bool) : zoneSetByte set = Nat.ofBits fun z : Zone => set[z] := by
  simp [zoneSetByte, Nat.ofBits_succ]
  omega

theorem weekdayByte_eq (w : Vector Bool 7) : weekdayByte w = Nat.ofBits fun d : Fin 7 => w[d] := by
  simp [weekdayByte, Nat.ofBits_succ]
  omega

theorem zoneSetByte_lt (set : PerZone Bool) : zoneSetByte set < 16 := zoneSetByte_eq set ▸ Nat.ofBits_lt_two_pow _
theorem weekdayByte_lt (w : Vector Bool 7) : weekdayByte w < 128 := weekdayByte_eq w ▸ Nat.ofBits_lt_two_pow _

/-- R173: a zone set reads back from its byte. -/
theorem zoneSetOf_zoneSetByte (set : PerZone Bool) : zoneSetOf (zoneSetByte set) = set := by
  rw [zoneSetByte_eq]
  ext i hi
  match i, hi with
  | 0, _ | 1, _ | 2, _ | 3, _ => exact Nat.testBit_ofBits_lt _ _ (by decide)

/-- R173: a weekday set reads back from its byte. -/
theorem weekdaysOf_weekdayByte (w : Vector Bool 7) : weekdaysOf (weekdayByte w) = w := by
  rw [weekdayByte_eq]
  ext i hi
  match i, hi with
  | 0, _ | 1, _ | 2, _ | 3, _ | 4, _ | 5, _ | 6, _ => exact Nat.testBit_ofBits_lt _ _ (by decide)

end Sys2Proof.Machine
end

section
/-! SUPPORT. Records that read back as they were loaded (R22, R60, R86, R173). -/

namespace Sys2Proof.Machine

/-! ### Bookings (R86) -/

theorem bookingBytes_stand (b : Booking) : let d := b.bytes
    StandsAt d 0 (be16 b.id) ∧ StandsAt d 2 [byteOf (weekdayByte b.weekdays)] ∧ StandsAt d 3 (be16 b.start) ∧
      StandsAt d 5 (be16 b.stop) ∧ StandsAt d 7 [byteOf (zoneSetByte b.zones)] ∧ StandsAt d 8 (be16 b.count) ∧
      StandsAt d 10 [byteOf b.session.code] ∧ StandsAt d 11 [byteOf b.lead] ∧ StandsAt d 12 [byteOf b.profile] := by
  simp [Booking.bytes]

theorem ofCode_sessionCode (k : Session) : Session.ofCode k.code = some k := by cases k <;> rfl
theorem sessionCode_lt (k : Session) : k.code < 256 := by cases k <;> decide

/-- R86, R173: a booking reads back from its bytes. -/
theorem bookingOf_bytes {b : Booking} (hid : b.id < 65536) (hstart : b.start < 65536) (hstop : b.stop < 65536)
    (hcount : b.count < 65536) (hlead : b.lead < 256) (hprofile : b.profile < 256) : bookingOf b.bytes = b := by
  obtain ⟨h0, h2, h3, h5, h7, h8, h10, h11, h12⟩ := bookingBytes_stand b
  have hw : weekdayByte b.weekdays < 256 := (weekdayByte_lt _).trans (by decide)
  have hz : zoneSetByte b.zones < 256 := (zoneSetByte_lt _).trans (by decide)
  simp only [bookingOf, h0.of_be16_lt hid, h2.of_byteOf_lt hw, h3.of_be16_lt hstart, h5.of_be16_lt hstop,
    h7.of_byteOf_lt hz, h8.of_be16_lt hcount, h10.of_byteOf_lt (sessionCode_lt _), h11.of_byteOf_lt hlead,
    h12.of_byteOf_lt hprofile, weekdaysOf_weekdayByte, zoneSetOf_zoneSetByte, ofCode_sessionCode, Option.getD_some]

/-! ### Zone records (R60) -/

theorem zoneRecord_stands (b : Byte) (c : ZoneConfig) : let d := b :: zoneConfigBytes (some c)
    StandsAt d 2 (be16 c.area) ∧ StandsAt d 4 [byteOf c.walkIn] ∧ StandsAt d 5 (be16 c.dMax) ∧
      StandsAt d 7 (be16 c.dMinOcc) ∧ StandsAt d 9 (be16 c.dMinUnocc) ∧
      StandsAt d 11 [byteOf (c.partitionToNext.toNat + 2 * c.facade.toNat)] := by
  simp [zoneConfigBytes]

/-- R60, R173: a zone record in range reads back from its bytes. -/
theorem zoneConfigOf_bytes (b : Byte) {c : ZoneConfig} (h : c.inRange = true) :
    zoneConfigOf (b :: zoneConfigBytes (some c)) = c := by
  obtain ⟨h2, h4, h5, h7, h9, h11⟩ := zoneRecord_stands b c
  simp only [ZoneConfig.inRange, Bool.and_eq_true, decide_eq_true_eq] at h
  obtain ⟨⟨⟨⟨⟨⟨ha, ha'⟩, hw⟩, hd⟩, hd'⟩, ho⟩, hu⟩ := h
  have hflags : ∀ p f : Bool, p.toNat + 2 * f.toNat < 256 ∧ (p.toNat + 2 * f.toNat).testBit 0 = p ∧
      (p.toNat + 2 * f.toNat).testBit 1 = f := by decide
  obtain ⟨hlt, hp, hf⟩ := hflags c.partitionToNext c.facade
  simp only [zoneConfigOf, h2.of_be16_lt (by omega), h4.of_byteOf_lt (by omega), h5.of_be16_lt (by omega),
    h7.of_be16_lt (by omega), h9.of_be16_lt (by omega), h11.of_byteOf_lt hlt, hp, hf]

/-! ### Point entries (R22) -/

theorem staticBytes_stand (e : PointEntry) : let d := e.staticBytes
    StandsAt d 0 (be16 e.code.toNat) ∧ StandsAt d 2 [byteOf (sideCode e.side)] ∧ StandsAt d 3 [byteOf e.disposition.code] ∧
      StandsAt d 4 (opt16 (e.relayCode.map (·.toNat))) ∧ StandsAt d 6 [byteOf ((e.role.map Role.code).getD 0)] ∧
      StandsAt d 7 [byteOf e.attachment.form] ∧ StandsAt d 8 e.attachment.bytes ∧ StandsAt d 12 (mapBytes e.code e.rangeMap) ∧
      StandsAt d 21 (be16 e.silenceLimit) := by
  simp [PointEntry.staticBytes]

theorem ofNat_toNat_code (c : PointCode) : BitVec.ofNat 12 c.toNat = c := by simp

theorem code_lt (c : PointCode) : c.toNat < 65536 := c.isLt.trans (by decide)

theorem ofCode_roleCode (r : Option Role) : Role.ofCode ((r.map Role.code).getD 0) = r := by
  cases r with
  | none => rfl
  | some r => cases r <;> rfl

theorem roleCode_lt (r : Option Role) : (r.map Role.code).getD 0 < 256 := by
  cases r with
  | none => decide
  | some r => cases r <;> decide

theorem ofCode_dispositionCode (d : Disposition) : Disposition.ofCode d.code = d := by cases d <;> rfl
theorem dispositionCode_lt (d : Disposition) : d.code < 256 := by cases d <;> decide

/-- R173: an optional code reads back; 65535 is no code. -/
theorem relayCode_reads {d : List Byte} {i : Nat} {r : Option PointCode} (h : StandsAt d i (opt16 (r.map (·.toNat)))) :
    (if u16 d i = 65535 then none else some (BitVec.ofNat 12 (u16 d i))) = r := by
  rw [opt16_eq] at h
  cases r with
  | none => rw [h.of_be16_lt (by simp)]; rfl
  | some c =>
    have hc : c.toNat < 4096 := c.isLt
    rw [h.of_be16_lt (code_lt c)]
    simp only [Option.map_some, Option.getD_some, ofNat_toNat_code]
    exact if_neg (by omega)

/-- R22, R173: a lane map reads back from its 4 bytes; 255 is no zone. -/
theorem laneMap_reads {d : List Byte} {m : PerZone (Option Zone)} (h : StandsAt d 8 (Attachment.lanes m).bytes) :
    (forZones fun k => if u8 d (8 + k.val) ≤ 3 then some (Fin.ofNat 4 (u8 d (8 + k.val))) else none) = m := by
  have hs : ∀ k : Fin 4, StandsAt (Attachment.lanes m).bytes k.val (opt8 (m[k].map (·.val))) := by
    simp [forall_fin4, Attachment.bytes, allZones]
  have hk : ∀ k : Fin 4, (if u8 d (8 + k.val) ≤ 3 then some (Fin.ofNat 4 (u8 d (8 + k.val))) else none) = m[k] := fun k => by
    have hb := h.within (hs k) (by rw [length_attachmentBytes]; omega)
    rw [opt8_eq] at hb
    cases hv : m[k] with
    | none =>
      rw [hv] at hb
      rw [hb.of_byteOf_lt (by decide)]
      rfl
    | some z =>
      have hz : z.val < 4 := z.isLt
      rw [hv] at hb
      rw [hb.of_byteOf_lt (by simp only [Option.map_some, Option.getD_some]; omega)]
      simp only [Option.map_some, Option.getD_some, Fin.ofNat_val_eq_self]
      exact if_pos (by omega)
  ext i hi : 1
  exact (forZones_get _ ⟨i, hi⟩).trans (hk ⟨i, hi⟩)

/-- R22, R173: an attachment reads back from its form and its 4 bytes. -/
theorem attachmentOf_reads {d : List Byte} {a : Attachment} (hform : u8 d 7 = a.form) (h : StandsAt d 8 a.bytes) :
    attachmentOf d = a := by
  unfold attachmentOf
  cases a with
  | none => simp only [hform, Attachment.form]
  | zones set =>
    have hz : u8 d 8 = zoneSetByte set :=
      (StandsAt.left (c := [byteOf (zoneSetByte set)]) h).of_byteOf_lt ((zoneSetByte_lt _).trans (by decide))
    simp only [hform, Attachment.form, hz, zoneSetOf_zoneSetByte]
  | lanes m =>
    simp only [hform, Attachment.form, laneMap_reads h]
  | partition p =>
    have hp : u8 d 8 = p.val + 1 := (StandsAt.left (c := [byteOf (p.val + 1)]) h).of_byteOf_lt (by omega)
    simp only [hform, Attachment.form, hp, Nat.add_sub_cancel, Fin.ofNat_val_eq_self]

/-- R22, R173: a range map reads back from its 9 bytes. -/
theorem rangeMap_reads {d : List Byte} {c : PointCode} {m : Option RangeMap} (h : StandsAt d 12 (mapBytes c m))
    (hm : ∀ x ∈ m, x.sourceLow < 65536 ∧ x.sourceHigh < 65536 ∧ x.targetLow < 65536 ∧ x.targetHigh < 65536) :
    (if u8 d 12 = 1 then some (⟨u16 d 13, u16 d 15, u16 d 17, u16 d 19⟩ : RangeMap) else none) = m := by
  cases m with
  | none =>
    have h0 : u8 d 12 = 0 := (StandsAt.left (c := [0]) h).byte
    rw [h0]
    rfl
  | some m =>
    obtain ⟨hsl, hsh, htl, hth⟩ := hm m rfl
    have hs : StandsAt (mapBytes c (some m)) 0 [1] ∧ StandsAt (mapBytes c (some m)) 1 (be16 m.sourceLow) ∧
        StandsAt (mapBytes c (some m)) 3 (be16 m.sourceHigh) ∧ StandsAt (mapBytes c (some m)) 5 (be16 m.targetLow) ∧
        StandsAt (mapBytes c (some m)) 7 (be16 m.targetHigh) := by simp [mapBytes]
    obtain ⟨h0, h1, h3, h5, h7⟩ := hs
    have hp : u8 d 12 = 1 := (h.within h0 (by simp)).byte
    rw [hp, (h.within h1 (by simp)).of_be16_lt hsl, (h.within h3 (by simp)).of_be16_lt hsh,
      (h.within h5 (by simp)).of_be16_lt htl, (h.within h7 (by simp)).of_be16_lt hth]
    rfl

/-- R22, R24, R173: an entry reads back from its 23 bytes, its runtime afresh. -/
theorem pointOf_staticBytes {e : PointEntry} (hl : e.silenceLimit < 65536)
    (hm : ∀ m ∈ e.rangeMap, m.sourceLow < 65536 ∧ m.sourceHigh < 65536 ∧ m.targetLow < 65536 ∧ m.targetHigh < 65536) :
    pointOf e.staticBytes = e.fresh := by
  obtain ⟨h0, h2, h3, h4, h6, h7, h8, h12, h21⟩ := staticBytes_stand e
  have hside : (if u8 e.staticBytes 2 = 0 then Port.room else .trunk) = e.side := by
    rw [h2.of_byteOf]
    cases e.side <;> rfl
  have hform : u8 e.staticBytes 7 = e.attachment.form := h7.of_byteOf_lt (by cases e.attachment <;> simp [Attachment.form])
  simp only [pointOf, PointEntry.fresh, h0.of_be16_lt (code_lt _), ofNat_toNat_code, hside,
    h3.of_byteOf_lt (dispositionCode_lt _), ofCode_dispositionCode, relayCode_reads h4, h6.of_byteOf_lt (roleCode_lt _),
    ofCode_roleCode, attachmentOf_reads hform h8, rangeMap_reads h12 hm, h21.of_be16_lt hl]

end Sys2Proof.Machine
end

section
/-! SUPPORT. The fields of the read replies (R173) as the statements say them, from the chunks that stand at their places. -/

namespace Sys2Proof.Machine

/-! ### Codes fit a byte -/

theorem overrideCode_lt (m : OverrideMode) : m.code < 256 := by cases m <;> decide
theorem occupancyCode_lt (s : Occupancy) : s.code < 256 := by cases s <;> decide
theorem functionCode_lt (f : OutFunction) : f.code < 256 := by cases f <;> decide

/-- R67, R173: three flags of a group in one byte. -/
theorem groupFlags_eq (a p r : Bool) : (byteOf (a.toNat + 2 * p.toNat + 4 * r.toNat)).toNat =
    (if a then 1 else 0) + (if p then 2 else 0) + (if r then 4 else 0) := by
  revert a p r
  decide

/-- R160, R173: the two flags of an entry in one byte. -/
theorem entryFlags_eq (t x : Bool) : (byteOf (t.toNat + 2 * x.toNat)).toNat = (if t then 1 else 0) + (if x then 2 else 0) := by
  revert t x
  decide

/-- R141, R142, R173: the modes of the four channels and the sun state in one byte. -/
theorem modeFlags_eq (r : LightRecord) (sun : SunRecord) : (byteOf (modeFlags r sun)).toNat =
    (allZones.map fun ch => if r.modes[ch] then 2 ^ ch.val else 0).sum + (if sun.high then 128 else 0) := by
  have h : ∀ a b c d e : Bool, (byteOf (a.toNat + 2 * b.toNat + 4 * c.toNat + 8 * d.toNat + 128 * e.toNat)).toNat =
      ((if a then 1 else 0) + ((if b then 2 else 0) + ((if c then 4 else 0) + ((if d then 8 else 0) + 0)))) +
        (if e then 128 else 0) := by decide
  exact h ..

/-! ### The replies -/

/-- R48, R173: the last value or the four lane values of READ_POINT. -/
theorem pointValues_laidOut {e : PointEntry} {d : List Byte} (h : StandsAt d 29 e.valueBytes) : match e.attachment with
    | .lanes _ => ∀ k : Fin 4, FieldAt d (29 + 2 * k.val) e.lanes[k]
    | _ => (∀ n, e.last = some (.number n) → u16 d 29 = n % 65536) ∧ (e.last = none → u16 d 29 = 65535) ∧
        u16 d 31 = 65535 ∧ u16 d 33 = 65535 ∧ u16 d 35 = 65535 := by
  have hlen := length_valueBytes e
  have single : (∀ m, e.attachment ≠ .lanes m) →
      (∀ n, e.last = some (.number n) → u16 d 29 = n % 65536) ∧ (e.last = none → u16 d 29 = 65535) ∧
        u16 d 31 = 65535 ∧ u16 d 33 = 65535 ∧ u16 d 35 = 65535 := fun hs => by
    obtain ⟨h0, h2, h4, h6⟩ := valueBytes_single hs
    obtain ⟨n, hn, hnum, hnone⟩ := lastValueBytes_eq e.last
    rw [hn] at h0
    have hv : u16 d 29 = n % 65536 := (h.within h0 (by omega)).of_be16
    exact ⟨fun k hk => by rw [hv, hnum k hk], fun hk => by rw [hv, hnone hk], (h.within h2 (by omega)).of_be16,
      (h.within h4 (by omega)).of_be16, (h.within h6 (by omega)).of_be16⟩
  cases ha : e.attachment with
  | lanes m => exact fun k => (h.within (valueBytes_lanes ha k) (by omega)).of_opt16
  | none | zones | partition => exact single (by simp [ha])

theorem noticeDetail_laidOut {s : State} {k : NoticeKind} {d : List Byte}
    (h : StandsAt d (2 + 3 * k.code.val) (noticeDetail (s.notice k))) :
    u8 d (2 + 3 * k.code.val) * 65536 + u16 d (3 + 3 * k.code.val) =
      if (s.notice k).flag then ((s.notice k).detail.getD 0).toNat else 0 := by
  have h0 : u8 d (2 + 3 * k.code.val) = u8 (noticeDetail (s.notice k)) 0 := h.u8_at (k := 0) (by simp)
  have h1 : u16 d (2 + 3 * k.code.val + 1) = u16 (noticeDetail (s.notice k)) 1 := h.u16_at (k := 1) (by simp)
  rw [show 3 + 3 * k.code.val = 2 + 3 * k.code.val + 1 by omega, h0, h1, noticeDetail_number]

end Sys2Proof.Machine

open Sys2Proof Sys2Proof.Machine

/-- Settles O60: the three records read back (pointOf_staticBytes, zoneConfigOf_bytes, bookingOf_bytes), and the chunks of every
reply stand at their places (the _stands lemmas). -/
theorem recordsReadBackAndRepliesAreLaidOut : Obligations.RecordsReadBackAndRepliesAreLaidOut := by
  refine ⟨fun e hl hm => pointOf_staticBytes hl hm, fun z c hc => zoneConfigOf_bytes _ hc,
    fun b hid hstart hstop hcount hlead hprofile => bookingOf_bytes hid hstart hstop hcount hlead hprofile,
    fun e => ?_, fun s z => ?_, fun s z => ?_, fun s z l g hg => ?_, fun s z => ?_, fun s z => ?_, fun e => ?_, fun s => ?_⟩
  · obtain ⟨hlen, htake, h23, h24, h25, h29⟩ := pointReply_stands e
    refine ⟨hlen, htake, h23.byte.trans ?_, h24.flag, h25.second, pointValues_laidOut h29⟩
    cases e.supervision <;> rfl
  · obtain ⟨hlen, htake, h11, h12, h16, h18, h20⟩ := zonePart0_stands s z
    exact ⟨hlen, htake, h11.of_byteOf_lt (overrideCode_lt _), h12.second, h16.of_opt16, h18.of_opt16, h20.of_opt16⟩
  · obtain ⟨hlen, h0, h4, h8, h12, h14, h16, h18, h19, h20, h23⟩ := zonePart1_stands s z
    refine ⟨hlen, h0.second, h4.second, h8.second, h12.of_opt16, h14.of_opt16, h16.of_opt16, h18.flag, h19.flag,
      fun k => ?_, h23.of_opt16⟩
    have hval : Bool.toNat = fun v => if v then 1 else 0 := funext fun v => by cases v <;> rfl
    exact hval ▸ (h20 k).of_opt8
  · have hp : zonePart s z 2 = zonePart2 l g := by simp only [zonePart, hg]
    obtain ⟨hlen, h0, h1, h2, h3, h4, h8, h10, h12, h14, h16, h17, h18, h19, h23, h27, h31, h35, h37⟩ := zonePart2_stands l g
    rw [hp]
    refine ⟨hlen, h0.of_byteOf_lt (by omega), ?_, h2.of_byteOf_lt (occupancyCode_lt _), h3.of_byteOf_lt (overrideCode_lt _),
      h4.second, h8.of_be16, h10.of_opt16, h12.of_opt16, h14.of_be16, h16.of_opt8, h17.of_byteOf,
      h18.byte.trans (groupFlags_eq ..), h19.second, h23.second, h27.second, h31.second, h35.of_be16, h37.selection⟩
    exact (h1.of_byteOf_lt ((zoneSetByte_lt _).trans (by decide))).trans (zoneSetByte_memberSet _)
  · obtain ⟨hlen, h0, h4, h5, h7, h9, h11, h13, h14, h18⟩ := zonePart3_stands s.air[z]
    exact ⟨hlen, h0.of_signed32, h4.flag, h5.of_be16, h7.of_be16, h9.of_opt16, h11.of_opt16, h13.of_opt8, h14.of_be32,
      h18.of_signed16⟩
  · obtain ⟨hlen, h0, h1, h2, h10, h14, h16, h18, h20, h22, h26, h30, h34⟩ := zonePart4_stands s.light[z] s.sun
    exact ⟨hlen, h0.selection, h1.byte.trans (modeFlags_eq ..), fun ch => (h2 ch).of_be16, h10.second, h14.of_opt16,
      h16.of_opt16, h18.of_opt16, h20.of_opt16, h22.second, h26.second, h30.second, h34.second⟩
  · obtain ⟨hlen, h0, h1, h3, h4, h5, h6, h8, h9, h10, h13, h16, h19, h22, h23, h24⟩ := outputReply_stands e
    refine ⟨hlen, h0.of_byteOf_lt (by omega), h1.of_be16_lt (code_lt _), h3.of_byteOf_lt (by omega),
      h4.of_byteOf_lt (functionCode_lt _), h5.of_byteOf, h6.of_be16, h8.byte.trans ?_, h9.byte.trans (entryFlags_eq ..),
      h10.outValue, h13.outValue, h16.outValue, h19.outValue, h22.of_byteOf, h23.of_byteOf, h24.second⟩
    cases e.state <;> rfl
  · obtain ⟨hlen, h0, hk⟩ := noticeBytes_stand s
    have hlt : noticeFlags s < 4096 := noticeFlags_eq s ▸ Nat.ofBits_lt_two_pow _
    have hflags : u16 (noticeBytes s) 0 = noticeFlags s := h0.of_be16_lt (by omega)
    exact ⟨hlen, fun k => hflags ▸ testBit_noticeFlags s k, hflags ▸ hlt, fun k => noticeDetail_laidOut (hk k)⟩
end

section
/-! SUPPORT. Apportionment by largest remainder (R78): what the first shares leave over, and how many places take one of it. -/

namespace Sys2Proof.Machine

/-! ### The order of the remainders (R78) -/

/-- R78: place j goes before place i: its remainder is larger, or as large at a lower place. -/
abbrev GoesBefore {m : Nat} (r : Fin m → Nat) (j i : Fin m) : Prop := r i < r j ∨ (r j = r i ∧ j < i)

/-- R78: the places that go before a place. -/
def placesBefore {m : Nat} (r : Fin m → Nat) (i : Fin m) : Finset (Fin m) := Finset.univ.filter fun j => GoesBefore r j i

theorem mem_placesBefore {m : Nat} {r : Fin m → Nat} {j i : Fin m} : j ∈ placesBefore r i ↔ GoesBefore r j i := by
  simp [placesBefore]

/-- The places before a place are fewer than those before each later one: the rank tells places apart. -/
theorem card_placesBefore_lt {m : Nat} (r : Fin m → Nat) {i k : Fin m} (h : GoesBefore r i k) :
    (placesBefore r i).card < (placesBefore r k).card := by
  have hsub : placesBefore r i ⊆ placesBefore r k := fun j => by
    simp only [mem_placesBefore, GoesBefore] at h ⊢
    omega
  refine Finset.card_lt_card ((Finset.ssubset_iff_of_subset hsub).mpr ⟨i, mem_placesBefore.mpr h, ?_⟩)
  simp [mem_placesBefore]

theorem card_placesBefore_lt_length {m : Nat} (r : Fin m → Nat) (i : Fin m) : (placesBefore r i).card < m := by
  have hi : i ∉ placesBefore r i := by simp [mem_placesBefore]
  simpa using Finset.card_lt_univ_of_notMem hi

/-- The rank of a place is a permutation of the places. -/
theorem card_placesBefore_bijective {m : Nat} (r : Fin m → Nat) :
    Function.Bijective fun i => (⟨(placesBefore r i).card, card_placesBefore_lt_length r i⟩ : Fin m) := by
  refine Finite.injective_iff_bijective.mp fun i k h => ?_
  have heq : (placesBefore r i).card = (placesBefore r k).card := by simpa using h
  by_contra hne
  have hord : GoesBefore r i k ∨ GoesBefore r k i := by
    simp only [GoesBefore]
    omega
  rcases hord with h | h
  · exact (card_placesBefore_lt r h).ne heq
  · exact (card_placesBefore_lt r h).ne' heq

/-- R78: as many places take one more as are left over. -/
theorem card_placed {m left : Nat} (r : Fin m → Nat) (h : left ≤ m) :
    (Finset.univ.filter fun i => (placesBefore r i).card < left).card = left := by
  calc (Finset.univ.filter fun i => (placesBefore r i).card < left).card
      = (Finset.univ.filter fun k : Fin m => k.val < left).card :=
        Finset.card_bijective _ (card_placesBefore_bijective r) (by simp)
    _ = left := by rw [Fin.card_filter_val_lt, Nat.min_eq_right h]

/-! ### The model's lists -/

theorem length_filter_range (p : Nat → Bool) (m : Nat) :
    ((List.range m).filter p).length = (Finset.univ.filter fun i : Fin m => p i = true).card := by
  have h : ((List.range m).filter p).length = ((Finset.range m).filter fun j => p j = true).card := by
    rw [← List.toFinset_card_of_nodup ((List.nodup_range).filter _), List.toFinset_filter, List.toFinset_range]
  rw [h, Finset.card_filter, Finset.card_filter, Finset.sum_range]

theorem remainderRank_map (f : Nat → Nat) (l : List Nat) (i : Fin l.length) :
    remainderRank (l.map f) i = (placesBefore (fun j : Fin l.length => f l[j]) i).card := by
  simp only [remainderRank, List.length_map]
  rw [length_filter_range, placesBefore]
  simp [GoesBefore]

/-- R78: the first shares and the remainders make up the total over every area. -/
theorem first_mul_add_rems (n total : Nat) (l : List Nat) :
    (l.map fun a => n * a / total).sum * total + (l.map fun a => n * a % total).sum = n * l.sum := by
  induction l with
  | nil => simp
  | cons a l ih =>
    have h := Nat.div_add_mod (n * a) total
    simp only [List.map_cons, List.sum_cons, Nat.mul_add, Nat.add_mul] at ih ⊢
    linarith [Nat.mul_comm total (n * a / total)]

/-- R78: the first shares stay within the total, and what they leave is less than the number of zones. -/
theorem first_sum_bounds (n : Nat) {l : List Nat} (ht : 0 < l.sum) :
    (l.map fun a => n * a / l.sum).sum ≤ n ∧ n - (l.map fun a => n * a / l.sum).sum < l.length := by
  have hne : l ≠ [] := fun h => by simp [h] at ht
  have hsum := first_mul_add_rems n l.sum l
  have hrem : (l.map fun a => n * a % l.sum).sum < (l.map fun _ => l.sum).sum :=
    List.sum_lt_sum_of_ne_nil hne _ _ fun a _ => Nat.mod_lt _ ht
  simp only [List.map_const', List.sum_replicate, smul_eq_mul] at hrem
  generalize (l.map fun a => n * a / l.sum).sum = first at hsum ⊢
  have hle : first ≤ n := by
    by_contra hc
    have := Nat.mul_lt_mul_of_pos_right (not_le.mp hc) ht
    omega
  refine ⟨hle, ?_⟩
  have hleft : (n - first) * l.sum < l.length * l.sum := by
    rw [Nat.sub_mul]
    omega
  exact Nat.lt_of_mul_lt_mul_right hleft

/-- R78: a zone's share is its first share, and one more where fewer places go before it than are left over. -/
theorem apportion_getD (n : Nat) (l : List Nat) (i : Fin l.length) : (apportion n l).getD i 0 = n * l[i] / l.sum +
    if (placesBefore (fun j : Fin l.length => n * l[j] % l.sum) i).card < n - (l.map fun a => n * a / l.sum).sum then 1
    else 0 := by
  have hr := remainderRank_map (fun a => n * a % l.sum) l i
  simp only [apportion]
  rw [List.getD_eq_getElem _ _ (by simp), List.getElem_map, List.getElem_range, hr,
    List.getD_eq_getElem _ _ (by simp), List.getElem_map]
  rfl

/-- R78: the shares sum to the total. -/
theorem sum_apportion (n : Nat) {l : List Nat} (ht : 0 < l.sum) : (apportion n l).sum = n := by
  obtain ⟨hle, hleft⟩ := first_sum_bounds n ht
  have hlist : apportion n l = List.ofFn fun i : Fin l.length => (apportion n l).getD i 0 :=
    List.ext_getElem (by simp [apportion]) fun i hi _ => by simp [hi]
  have hfirst : ∑ i : Fin l.length, n * l[i] / l.sum = (l.map fun a => n * a / l.sum).sum := by
    rw [← List.ofFn_getElem_eq_map, List.sum_ofFn]
    rfl
  rw [hlist, List.sum_ofFn, Finset.sum_congr rfl fun i _ => apportion_getD n l i, Finset.sum_add_distrib,
    ← Finset.card_filter, card_placed _ hleft.le, hfirst]
  omega

end Sys2Proof.Machine

open Sys2Proof Sys2Proof.Machine

/-- Settles O59: the first shares leave less than one for each zone (first_sum_bounds), and the rank by remainder and place is
a permutation of the places, so just as many places as are left over take one more (card_placed). -/
theorem apportionmentSharesTheTotal : Obligations.ApportionmentSharesTheTotal := by
  intro n areas _ hlen _ hareas total left shares
  have ht : 0 < areas.sum := by
    obtain ⟨a, ha⟩ := List.exists_mem_of_length_pos hlen
    have := List.le_sum_of_mem ha
    have := hareas a ha
    omega
  obtain ⟨hle, hleft⟩ := first_sum_bounds n ht
  exact ⟨by simp [shares, apportion], sum_apportion n ht, hle, hleft, apportion_getD n areas⟩
end

section
/-! SUPPORT. A state whose room is sound and whose point table holds one code twice: a clock arrival there changes a seat count
before it changes the booking views (R58, R59), so an air record is not what a prompt evaluation makes of its zone in the end. -/

namespace Sys2Proof.Machine

/-- R134: the thermal mode of an air record that a prompt evaluation of the zone as it stands makes. -/
theorem Evaluated.thermal {s : State} {z : Zone} (h : Evaluated s z) :
    (groupOf s z).map (fun x => thermalMode s x.2 (windowDwelled s z)) = s.air[z].thermal := by
  obtain ⟨c, l, g, r, -, hg, heq⟩ := h
  rw [hg]
  exact (congrArg AirRecord.thermal heq).symm

/-- An entry of code 20 on the room side, under TAKE. -/
def entryAt20 (r : Role) (a : Attachment) : PointEntry where
  code := 20
  side := .room
  disposition := .take
  relayCode := none
  role := some r
  attachment := a
  rangeMap := none
  silenceLimit := 60
  supervision := .live
  deadline := none
  last := some (.number 3)
  lanes := Vector.replicate 4 none
  lastArrival := none
  outOfSpan := false
  lastCommand := none

/-- Z0 alone, VACANT with a head count of 5 in its record, a room port that is UP, and two entries of code 20: the clock, and a
seat counter of Z0 that stands at 3. -/
def sharedCode : State :=
  let s := { State.reset with
    room := { LinePort.reset with up := true }
    zones := #v[some ⟨120, 10, 3000, 600, 150, false, true⟩, none, none, none]
    points := [entryAt20 .clock .none, entryAt20 .seatCount (.zones #v[true, false, false, false])] }
  { s with groups := #v[some { freshGroup s [0] with headCount := 5 }, none, none, none] }

/-- Monday 00:00:00 under code 20. -/
def clockTime : Frame := ⟨2, .state, 6, 9, 23, 20, true, 0, [0, 0, 0, 0]⟩

/-- The state after that arrival. -/
def clockSet : State := settle (frameArrives .room clockTime.encode 0 (clearPins sharedCode))

theorem exec_clockTime : exec (.frameArrival .room clockTime.encode 0) sharedCode = .next clockSet := rfl

theorem roomSound_sharedCode : RoomSound sharedCode := by decide +kernel

/-- The twin's count is lost, so the head count goes from 5 to 0. -/
theorem headCount_clockSet : sharedCode.groups[(0 : Zone)].map Group.headCount = some 5 ∧
    clockSet.groups[(0 : Zone)].map (fun g => (g.headCount, g.members)) = some (0, [0]) := by decide +kernel

/-- That evaluated Z0 while the clock was UNSET (STANDBY); with wing time set and no booking ahead it is ECONOMY. -/
theorem thermal_clockSet : clockSet.air[(0 : Zone)].thermal = some .standby ∧
    (groupOf clockSet 0).map (fun x => thermalMode clockSet x.2 (windowDwelled clockSet 0)) = some .economy := by
  decide +kernel

end Sys2Proof.Machine

open Sys2Proof Sys2Proof.Machine

/-- Refutes O28: its premise RoomSound says nothing of the point table. Where two entries share a code (PointsSound rules it
out), one arrival is a seat count's last value and a time: the count change evaluates the zone's air before the time is taken,
and the time then changes the thermal mode that an evaluation gives. -/
theorem not_groupChangesAreHandedOn : ¬ Obligations.GroupChangesAreHandedOn := by
  intro h
  obtain ⟨hcount, hset⟩ := headCount_clockSet
  obtain ⟨new, hnew, hfields⟩ := Option.map_eq_some_iff.mp hset
  obtain ⟨hzero, hmem⟩ := Prod.mk.inj hfields
  have hdiffers : ∀ g, sharedCode.groups[(0 : Zone)] = some g → new.headCount ≠ g.headCount := fun g hg => by
    simp only [hg, Option.map_some, Option.some.injEq] at hcount
    omega
  have hair := ((h _ _ _ roomSound_sharedCode exec_clockTime).1 nofun).1 0 new hnew
    (fun g hg => .inr (.inr (hdiffers g hg))) 0 (by simp [hmem])
  obtain ⟨hstandby, heconomy⟩ := thermal_clockSet
  exact absurd (heconomy.symm.trans (hair.thermal.trans hstandby)) nofun
end


section
/-! SUPPORT. What the air demand unit commands stays within each zone's maximum (R61, R131, R132): the stages of an evaluation keep
it so, the resets start at 0, a loaded zone record is in range, and no other operation touches zones or air records. -/

namespace Sys2Proof.Machine

/-! ### What is kept -/

/-- Every zone record is in range, and the zone's D_out is within its D_max. -/
def AirInRange (s : State) : Prop := ∀ z : Zone, ∀ c ∈ s.zones[z], c.inRange = true ∧ s.air[z].dOut ≤ c.dMax

theorem airInRange_iff {s : State} : AirInRange s ↔ (∀ z : Zone, ConfigSound s z) ∧ AirSound s :=
  ⟨fun h => ⟨fun z c hc => (h z c hc).1, fun z c hc => (h z c hc).2⟩, fun h z c hc => ⟨h.1 z c hc, h.2 z c hc⟩⟩

/-- An operation keeps the air within its range. -/
structure AirKept (s t : State) : Prop where
  inRange : AirInRange s → AirInRange t

theorem AirKept.refl (s : State) : AirKept s s := ⟨id⟩

theorem AirKept.trans {s t u : State} (a : AirKept s t) (b : AirKept t u) : AirKept s u := ⟨b.inRange ∘ a.inRange⟩

theorem AirKept.foldl {α : Type} {f : State → α → State} (h : ∀ s a, AirKept s (f s a)) (l : List α) (s : State) :
    AirKept s (l.foldl f s) := foldl_related .refl .trans h l s

theorem AirKept.ite {c : Prop} [Decidable c] {s t : State} (h : AirKept s t) : AirKept s (if c then t else s) := by
  split <;> [exact h; exact .refl s]

/-- A write of anything but the zone records and the air records. -/
theorem AirKept.of_eq {s t : State} (hz : t.zones = s.zones) (ha : t.air = s.air) : AirKept s t := by
  refine ⟨fun h z c hc => ?_⟩
  rw [hz] at hc
  rw [ha]
  exact h z c hc

/-- The same behind such a write. -/
theorem AirKept.behind {s t u : State} (h : AirKept t u) (hz : t.zones = s.zones) (ha : t.air = s.air) : AirKept s u :=
  .trans (.of_eq hz ha) h

/-- After a reset of the air records D_out is 0. -/
theorem airInRange_of_reset {s : State} {n : Nat} (ha : s.air = Vector.replicate 4 (AirRecord.reset n))
    (hz : ∀ z : Zone, ConfigSound s z) : AirInRange s := by
  intro z c hc
  refine ⟨hz z c hc, ?_⟩
  have h0 : s.air[z] = AirRecord.reset n := by rw [ha]; simp
  rw [h0]
  exact Nat.zero_le _

/-- Groups and the record of the timetable are written freely. -/
theorem AirKept.groups (s : State) (g : PerZone (Option Group)) (v : PerZone BookingView) :
    AirKept s { s with groups := g, views := v } := .of_eq rfl rfl

/-! ### The frames of the lines -/

theorem OffersFrame.airKept {s t : State} (h : OffersFrame s t) : AirKept s t := .of_eq (by rw [h]) (by rw [h])
theorem ShownFrame.airKept {s t : State} (h : ShownFrame s t) : AirKept s t := .of_eq (by rw [h]) (by rw [h])
theorem OwnerFrame.airKept {s t : State} (h : OwnerFrame s t) : AirKept s t := .of_eq (by rw [h]) (by rw [h])
theorem LostFrame.airKept {s t : State} (h : LostFrame s t) : AirKept s t := .of_eq (by rw [h]) (by rw [h])

theorem settle_airKept (s : State) : AirKept s (settle s) := (settle_offered s).frame.airKept

theorem withPort_airKept (s : State) (p : Port) (q : LinePort) : AirKept s (s.withPort p q) := .of_eq (by simp) (by simp)

theorem answer_airKept (p : Port) (a : Option Answer) (s : State) : AirKept s (answer p a s) := .of_eq (by simp) (by simp)

theorem raise_airKept (k : NoticeKind) (d : BitVec 24) (s : State) : AirKept s (raise k d s) := (raise_owner k d s).airKept

theorem raiseOneOf_airKept (k : NoticeKind) (ds : List (BitVec 24)) (s : State) : AirKept s (raiseOneOf k ds s) := by
  by_cases h : ds = []
  · subst h; exact .refl s
  · obtain ⟨d, -, n, heq⟩ := raiseOneOf_eq h s
    rw [heq]
    exact (raise_airKept k d _).behind rfl rfl

/-! ### Evaluations (R125, R131, R132) -/

/-- R61: the demands of a zone record in range stand in order. -/
theorem ZoneConfig.inRange_order {c : ZoneConfig} (h : c.inRange = true) : c.dMinUnocc ≤ c.dMinOcc ∧ c.dMinOcc ≤ c.dMax := by
  simp only [ZoneConfig.inRange, Bool.and_eq_true, decide_eq_true_eq] at h
  exact ⟨h.2, h.1.2⟩

theorem clampInt_le {lo hi x : Int} (h : lo ≤ hi) : clampInt lo hi x ≤ hi := by
  unfold clampInt
  (repeat' split) <;> omega

theorem clampNat_le {lo hi x : Nat} (h : lo ≤ hi) : clampNat lo hi x ≤ hi := by
  unfold clampNat
  (repeat' split) <;> omega

/-- R131: in every state the target is within D_max. -/
theorem airTarget_le (p : Params) {c : ZoneConfig} (h : c.inRange = true) (state : Occupancy) (dwelled : Bool)
    (dBase : Nat) (i : Int) : airTarget p c state dwelled dBase i ≤ c.dMax := by
  obtain ⟨hun, hocc⟩ := ZoneConfig.inRange_order h
  unfold airTarget
  split
  · exact hun.trans hocc
  · cases state with
    | occupied | holdover =>
      have := clampInt_le (lo := c.dMinOcc) (hi := c.dMax) (x := dBase + roundHalfAway i 100) (by exact_mod_cast hocc)
      dsimp only
      omega
    | expected => exact clampNat_le hocc
    | prepare => exact Nat.min_le_left ..
    | vacant | noShow => exact hun.trans hocc

/-- R132: the move ends between where it began and the target. -/
theorem rateLimited_le {target dOut top : Nat} (allowance : Nat) (ht : target ≤ top) (hd : dOut ≤ top) :
    rateLimited target dOut allowance ≤ top := by
  unfold rateLimited rateMove
  split <;> omega

theorem handTo_airKept (z : Zone) (f : OutFunction) (v : OutValue) (s : State) : AirKept s (handTo z f v s) := .of_eq rfl rfl

theorem airStages_le {s : State} {z : Zone} {c : ZoneConfig} (h : AirInRange s) (hc : s.zones[z] = some c)
    (periodic : Bool) (g : Group) : (airStages s periodic z c g).dOut ≤ c.dMax := by
  obtain ⟨hr, hd⟩ := h z c hc
  exact rateLimited_le _ (airTarget_le s.params hr ..) hd

theorem airEvaluate_airKept (periodic : Bool) (s : State) (z : Zone) : AirKept s (airEvaluate periodic s z) := by
  unfold airEvaluate
  split
  · rename_i c l g hc hg
    refine .trans ?_ ((handTo_airKept ..).trans (handTo_airKept ..))
    refine ⟨fun h y d hd => ⟨(h y d hd).1, ?_⟩⟩
    by_cases hy : z = y
    · subst hy
      obtain rfl : c = d := by simpa [hc] using hd
      simpa using airStages_le h hc periodic g
    · have hv : z.val ≠ y.val := fun e => hy (Fin.ext e)
      simpa [hv] using (h y d hd).2
  · exact .refl s

theorem airEvaluateZones_airKept (periodic : Bool) (zs : List Zone) (s : State) :
    AirKept s (airEvaluateZones periodic zs s) :=
  (AirKept.foldl (airEvaluate_airKept periodic) zs s).trans (raiseOneOf_airKept ..)

/-! ### Light and blinds (R143 to R152) -/

theorem updateLight_airKept (z : Zone) (f : LightRecord → LightRecord) (s : State) : AirKept s (updateLight z f s) :=
  .of_eq rfl rfl

theorem testBlind_airKept (z : Zone) (s : State) : AirKept s (testBlind z s) := by
  unfold testBlind
  dsimp only
  split
  · exact .ite (.of_eq rfl rfl)
  · exact .refl s

theorem recomputeBlind_airKept (z : Zone) (s : State) : AirKept s (recomputeBlind z s) :=
  (updateLight_airKept z _ s).trans (testBlind_airKept z _)

theorem sceneChange_airKept (z : Zone) (sel : Selection) (s : State) : AirKept s (sceneChange z sel s) :=
  ((updateLight_airKept z _ s).trans (.foldl (fun _ _ => handTo_airKept ..) _ _)).trans (recomputeBlind_airKept ..)

theorem selectMember_airKept (sel : Selection) (force : Bool) (s : State) (z : Zone) :
    AirKept s (selectMember sel force s z) := .ite (sceneChange_airKept ..)

theorem selectGroup_airKept (l : Zone) (clear force : Bool) (s : State) : AirKept s (selectGroup l clear force s) := by
  unfold selectGroup
  split
  · exact .refl s
  · exact .behind (.foldl (selectMember_airKept _ force) _ _) rfl rfl

theorem sceneRequest_airKept (z : Zone) (n : Nat) (s : State) : AirKept s (sceneRequest z n s) := by
  unfold sceneRequest
  split
  · split
    · exact (selectGroup_airKept ..).behind rfl rfl
    · exact .refl s
  · exact .refl s

theorem daylightChannel_airKept (z : Zone) (lux : Nat) (k : Scene) (s : State) (c : Fin 4) :
    AirKept s (daylightChannel z lux k s c) := by
  unfold daylightChannel
  split
  · exact .refl s
  · split
    · dsimp only
      split
      · exact .refl s
      · exact (updateLight_airKept z _ s).trans (handTo_airKept ..)
    · exact .refl s

theorem lightTickZone_airKept (z : Zone) (s : State) : AirKept s (lightTickZone z s) := by
  unfold lightTickZone
  split
  · refine (recomputeBlind_airKept z s).trans ?_
    unfold daylightStep
    split
    · exact .foldl (daylightChannel_airKept z _ _) _ _
    · exact .refl _
  · exact .refl s

/-! ### Groups (R65 to R76, R95, R100 to R117) -/

theorem handGroupChange_airKept (l : Zone) (old new : Group) (started membership : Bool) (s : State) :
    AirKept s (handGroupChange l old new started membership s) := by
  unfold handGroupChange
  exact .ite (.trans (.ite (airEvaluateZones_airKept ..)) (selectGroup_airKept ..))

theorem clearPendingTimes_airKept (members : List Zone) (s : State) : AirKept s (clearPendingTimes members s) := .of_eq rfl rfl

theorem commitGroup_airKept (l : Zone) (old new : Group) (started membership : Bool) (s : State) :
    AirKept s (commitGroup l old new started membership s) := by
  unfold commitGroup
  exact .behind (.trans (.ite (clearPendingTimes_airKept ..)) (handGroupChange_airKept ..)) rfl rfl

theorem groupEvent_airKept (z : Zone) (f : Group → Group) (s : State) : AirKept s (groupEvent z f s) := by
  unfold groupEvent
  split
  · exact commitGroup_airKept ..
  · exact .refl s

theorem countChanges_airKept (before s : State) : AirKept s (countChanges before s) :=
  .foldl (fun _ _ => groupEvent_airKept ..) _ s

theorem refreshPresentations_airKept (s : State) : AirKept s (refreshPresentations s) := by
  refine .foldl (fun s l => ?_) _ s
  unfold refreshPresentation
  split
  · split
    · exact .refl s
    · exact (selectGroup_airKept ..).behind rfl rfl
  · exact .refl s

theorem windowChanges_airKept (before s : State) : AirKept s (windowChanges before s) :=
  (airEvaluateZones_airKept false _ s).trans (.foldl (fun s z => testBlind_airKept z s) _ _)

theorem recomputeMismatch_airKept (s : State) : AirKept s (recomputeMismatch s) :=
  (raiseOneOf_airKept ..).behind rfl rfl

theorem mergeAt_airKept (k : Fin 3) (s : State) : AirKept s (mergeAt k s) := by
  unfold mergeAt
  split
  · split
    · exact .refl s
    · refine .trans ?_ (handGroupChange_airKept ..)
      refine .trans ?_ (.ite (clearPendingTimes_airKept ..))
      exact (recomputeMismatch_airKept _).behind rfl rfl
  · exact .refl s

theorem splitPendingTimes_airKept (old g : Group) (s : State) : AirKept s (splitPendingTimes old g s) :=
  .ite (clearPendingTimes_airKept ..)

theorem splitAt_airKept (k : Fin 3) (s : State) : AirKept s (splitAt k s) := by
  unfold splitAt
  split
  · split
    · refine .trans (.trans ?_ (airEvaluateZones_airKept ..)) ((selectGroup_airKept ..).trans (selectGroup_airKept ..))
      refine .trans ?_ ((splitPendingTimes_airKept ..).trans (splitPendingTimes_airKept ..))
      exact (recomputeMismatch_airKept _).behind rfl rfl
    · exact .refl s
  · exact .refl s

theorem partitionEvents_airKept (before : State) (a : Attachment) (s : State) : AirKept s (partitionEvents before a s) := by
  unfold partitionEvents partitionChange
  (repeat' split) <;> first | exact .refl s | exact splitAt_airKept .. | exact mergeAt_airKept ..

theorem rebuild_airKept (s : State) : AirKept s (rebuild s) :=
  (((AirKept.groups s _ s.views).trans (recomputeMismatch_airKept _)).trans (airEvaluateZones_airKept ..)).trans
    (.foldl (fun _ _ => selectGroup_airKept ..) _ _)

theorem evaluateBookings_airKept (s : State) : AirKept s (evaluateBookings s) := by
  have h : ∀ old u l, AirKept u (bookingViewEvent old u l) := fun old u l => by
    unfold bookingViewEvent
    split
    · exact .refl u
    · exact .ite (commitGroup_airKept ..)
  exact (AirKept.groups s s.groups _).trans (.trans (.foldl (h _) _ _) (recomputeMismatch_airKept _))

/-! ### Evidence, overrides, the sun and the clock (chapters 3, 5 and 6) -/

theorem overrideEvent_airKept (z : Zone) (mode : OverrideMode) (minutes : Nat) (s : State) :
    AirKept s (overrideEvent z mode minutes s) := by
  unfold overrideEvent
  split
  · exact (groupEvent_airKept ..).behind rfl rfl
  · exact .refl s

theorem deliverZone_airKept (d : Delivery) (z : Zone) (s : State) : AirKept s (deliverZone d z s) := by
  unfold deliverZone
  split
  · exact sceneRequest_airKept ..
  · exact overrideEvent_airKept ..
  · exact .refl s
  · exact .refl s

theorem zoneEvents_airKept (before : State) (strong weak reached : List Zone) (d : Delivery) (s : State) (z : Zone) :
    AirKept s (zoneEvents before strong weak reached d s z) := by
  unfold zoneEvents
  refine .trans ?_ (.ite (deliverZone_airKept ..))
  refine .trans ?_ (.ite (groupEvent_airKept ..))
  refine .trans ?_ (.ite (groupEvent_airKept ..))
  exact .ite (groupEvent_airKept ..)

theorem irradianceEvent_airKept (s : State) : AirKept s (irradianceEvent s) := by
  unfold irradianceEvent
  dsimp only
  split
  · exact .of_eq rfl rfl
  · exact .behind (.foldl (fun s z => recomputeBlind_airKept z s) _ _) rfl rfl

theorem clockArrival_airKept (w : WingTime) (s : State) : AirKept s (clockArrival w s) := by
  have h : ∀ b, AirKept s (evaluateBookings { s with freeRunning := b, clock := some w }) := fun b =>
    (evaluateBookings_airKept _).behind rfl rfl
  unfold clockArrival
  dsimp only
  split
  · exact h _
  · split
    · exact .of_eq rfl rfl
    · split
      · exact h _
      · exact (h _).trans (raise_airKept ..)

theorem advanceWing_airKept (s : State) : AirKept s (advanceWing s) := by
  unfold advanceWing
  split
  · exact .refl s
  · dsimp only
    split
    · exact (evaluateBookings_airKept _).behind rfl rfl
    · exact .of_eq rfl rfl

theorem otherEvents_airKept (r : Role) (d : Delivery) (s : State) : AirKept s (otherEvents r d s) := by
  unfold otherEvents
  split
  · exact clockArrival_airKept ..
  · exact irradianceEvent_airKept s
  · exact .refl s

theorem setHeldValue_airKept (e : PointEntry) (r : Role) (b : List Byte) (s : State) :
    AirKept s (setHeldValue e r b s) := by
  unfold setHeldValue
  split <;> exact .of_eq rfl rfl

theorem syncWindows_airKept (before s : State) : AirKept s (syncWindows before s) := .of_eq rfl rfl

theorem recordPresence_airKept (strong weak : List Zone) (s : State) : AirKept s (recordPresence strong weak s) :=
  .of_eq rfl rfl

theorem updatePoint_airKept (c : PointCode) (f : PointEntry → PointEntry) (s : State) : AirKept s (updatePoint c f s) :=
  .of_eq rfl rfl

theorem pointArrival_airKept (e : PointEntry) (r : Role) (b : List Byte) (s : State) : AirKept s (pointArrival e r b s) := by
  unfold pointArrival
  exact (((updatePoint_airKept ..).trans (setHeldValue_airKept ..)).trans ((syncWindows_airKept ..).trans
    ((recordPresence_airKept ..).trans (refreshPresentations_airKept _)))).trans
    ((AirKept.foldl (fun _ _ => zoneEvents_airKept ..) _ _).trans ((partitionEvents_airKept ..).trans
      ((otherEvents_airKept ..).trans (windowChanges_airKept ..))))

theorem evidenceChanged_airKept (before s : State) : AirKept s (evidenceChanged before s) :=
  (syncWindows_airKept before s).trans ((refreshPresentations_airKept _).trans
    ((countChanges_airKept ..).trans (windowChanges_airKept ..)))

theorem pointLeft_airKept (before : State) (e : PointEntry) (s : State) : AirKept s (pointLeft before e s) := by
  have hp : ∀ a u, AirKept u (keptPartition a u) := fun a u => by
    obtain ⟨held, h, -⟩ := keptPartition_eq a u
    exact .of_eq (by rw [h]) (by rw [h])
  have hi : ∀ r u, AirKept u (keptIrradiance r u) := fun r u => by
    rw [keptIrradiance_eq]
    exact .of_eq rfl rfl
  unfold pointLeft irradianceLost
  have h := ((hp e.attachment s).trans (hi e.role _)).trans ((evidenceChanged_airKept before _).trans
    (partitionEvents_airKept before e.attachment _))
  dsimp only
  split
  · exact h.trans (irradianceEvent_airKept _)
  · exact h

/-! ### Power, outcomes and resets (chapter 1) -/

theorem withdrawAll_airKept (l : List Queued) (s : State) : AirKept s (withdrawAll l s) := (withdrawAll_lost l s).frame.airKept

theorem endWaitingDrive_airKept (p : Port) (s : State) : AirKept s (endWaitingDrive p s) := by
  cases p
  · exact (endDrive_owner .unheard s).airKept
  · exact .refl s

theorem powerLoss_airKept (p : Port) (s : State) : AirKept s (powerLoss p s) := by
  unfold powerLoss
  refine .ite (.trans (.trans ?_ (withdrawAll_airKept ..)) (endWaitingDrive_airKept ..))
  exact (withPort_airKept ..).trans (withPort_airKept ..)

theorem powerUp_airKept (p : Port) (s : State) : AirKept s (powerUp p s) :=
  .ite ((withPort_airKept ..).trans (withPort_airKept ..))

theorem startHead_airKept (p : Port) (s : State) : AirKept s (startHead p s) := by
  unfold startHead
  split
  · split
    · exact withPort_airKept ..
    · exact .refl s
  · exact .refl s

theorem outcomeFixed_airKept (p : Port) (heard : Option (Byte × Byte)) (s : State) : AirKept s (outcomeFixed p heard s) := by
  unfold outcomeFixed
  split
  · exact ((withPort_airKept ..).trans (ownerOutcome_owner ..).airKept).trans (showFrame_shown ..).airKept
  · exact .refl s

theorem roomResetState_airKept (s : State) : AirKept s (roomResetState s) := .of_eq rfl rfl

theorem roomResetEvent_airKept (s : State) : AirKept s (roomResetEvent s) := by
  unfold roomResetEvent roomResetDriven
  refine .ite (.trans (.trans ?_ (roomResetState_airKept _)) ((refreshPresentations_airKept _).trans
    ((countChanges_airKept ..).trans (windowChanges_airKept ..))))
  refine .trans (.trans ?_ (withdrawAll_airKept ..)) (endWaitingDrive_airKept ..)
  exact (withPort_airKept ..).trans (withPort_airKept ..)

theorem softResetState_airKept (cause : BitVec 8) (s : State) : AirKept s (softResetState cause s) :=
  ⟨fun h => airInRange_of_reset (n := s.params.rStep) rfl fun z c hc => (h z c hc).1⟩

theorem softResetEvent_airKept (cause : BitVec 8) (s : State) : AirKept s (softResetEvent cause s) :=
  (softResetState_airKept cause s).trans (rebuild_airKept _)

theorem signalEnds_airKept (s : State) : AirKept s (signalEnds s) := by
  unfold signalEnds
  have h := softResetEvent_airKept 2 { s with trunkSignal := false }
  generalize softResetEvent 2 { s with trunkSignal := false } = u at h
  exact .ite (h.behind rfl rfl)

/-! ### Requests (chapters 10 and 11) -/

theorem tested_airKept {r : Option Result} {perform : State → Performed} {s : State} (h : AirKept s (perform s).1) :
    AirKept s (tested r perform s).1 := by
  cases r
  · exact h
  · exact .refl s

/-- R172: a request that keeps the air where its tests pass. -/
theorem tested_done_airKept_of {l : List (Bool × Result)} {data : State → List Byte} {f : State → State} {s : State}
    (h : (∀ x ∈ l, x.1 = false) → AirKept s (f s)) :
    AirKept s (tested (firstFailing l) (fun s => done (data s) (f s)) s).1 := by
  rcases tested_cases (firstFailing l) (fun s => done (data s) (f s)) s with ⟨e, -, heq⟩ | ⟨hn, heq⟩ <;> rw [heq]
  · exact .refl s
  · exact h (firstFailing_eq_none.mp hn)

theorem tested_done_airKept {r : Option Result} {data : State → List Byte} {f : State → State} {s : State}
    (h : AirKept s (f s)) : AirKept s (tested r (fun s => done (data s) (f s)) s).1 := tested_airKept h

theorem loadPoint_airKept (a : List Byte) (s : State) : AirKept s (performLoadPoint a s).1 := by
  refine tested_done_airKept ?_
  unfold loadPointEntry
  split
  · exact (pointLeft_airKept ..).behind rfl rfl
  · exact .of_eq rfl rfl

theorem deletePoint_airKept (a : List Byte) (s : State) : AirKept s (performDeletePoint a s).1 := by
  refine tested_airKept ?_
  split
  · exact (pointLeft_airKept ..).behind rfl rfl
  · exact .refl s

/-- R61, R68: a loaded zone record is in range, and the air records start afresh. -/
theorem loadZoneRecord_airKept {z : Zone} {c : Option ZoneConfig} (h : ∀ d ∈ c, d.inRange = true) (s : State) :
    AirKept s (loadZoneRecord z c s) := by
  have hr : ∀ u : State, u.air = Vector.replicate 4 (AirRecord.reset s.params.rStep) → u.zones = s.zones.set z c →
      AirKept s (rebuild u) := fun u ha hu => by
    refine .trans ⟨fun hs => airInRange_of_reset ha fun y d hd => ?_⟩ (rebuild_airKept u)
    rw [hu] at hd
    by_cases hy : z = y
    · subst hy
      exact h d (by simpa using hd)
    · have hv : z.val ≠ y.val := fun e => hy (Fin.ext e)
      exact (hs y d (by simpa [hv] using hd)).1
  exact hr _ rfl rfl

theorem loadZone_airKept (a : List Byte) (s : State) : AirKept s (performLoadZone a s).1 := by
  refine tested_done_airKept_of fun ht => loadZoneRecord_airKept (fun d hd => ?_) s
  have hr : zoneInRange s a = true := by simpa using ht (!zoneInRange s a, .outOfRange) (by simp)
  split at hd
  · rename_i hp
    cases hd
    simp only [zoneInRange, hp, if_true, Bool.and_eq_true] at hr
    obtain ⟨-, ⟨⟨⟨hc, -⟩, -⟩, -⟩⟩ := hr
    exact hc
  · cases hd

theorem deleteOutput_airKept (a : List Byte) (s : State) : AirKept s (performDeleteOutput a s).1 := by
  refine tested_airKept ?_
  split
  · split
    · exact .refl s
    · exact .of_eq rfl rfl
  · exact .refl s

theorem withStandby_airKept (page : List Booking) (s : State) : AirKept s (s.withStandby page) := by
  unfold State.withStandby
  split <;> exact .of_eq rfl rfl

theorem loadScene_airKept (a : List Byte) (s : State) : AirKept s (performLoadScene a s).1 := by
  refine tested_done_airKept ?_
  unfold loadSceneContent
  exact .behind (.foldl (fun _ _ => .ite (sceneChange_airKept ..)) _ _) rfl rfl

theorem loadProfile_airKept (a : List Byte) (s : State) : AirKept s (performLoadProfile a s).1 := by
  refine tested_done_airKept ?_
  unfold loadProfileSlots
  exact .behind (.foldl (fun _ _ => selectGroup_airKept ..) _ _) rfl rfl

theorem clearNotices_airKept (a : List Byte) (s : State) : AirKept s (performClearNotices a s).1 := by
  have h : ∀ mask (u : State) k, AirKept u (clearNotice mask u k) := fun _ _ _ => .ite (.of_eq rfl rfl)
  exact tested_done_airKept (.foldl (h _) _ _)

theorem enterHold_airKept (n : Nat) (s : State) : AirKept s (enterHold n s) := (enterHold_shown n s).airKept

theorem enterRun_airKept (s : State) : AirKept s (enterRun s) := .ite (.of_eq rfl rfl)

theorem drivePoint_airKept (rq : Requester) (a : List Byte) (s : State) : AirKept s (performDrivePoint rq a s).1 := by
  refine tested_airKept ?_
  unfold startDrive
  dsimp only
  split
  · exact .of_eq rfl rfl
  · exact (endDrive_owner ..).airKept.behind rfl rfl

theorem softReset_airKept (a : List Byte) (s : State) : AirKept s (performSoftReset a s).1 := by
  have h : AirKept s (softResetEvent 1 s) := softResetEvent_airKept 1 s
  refine tested_airKept ?_
  dsimp only
  exact h

/-- READ_POINT, READ_OUTPUT, READ_BOOKING and READ_PARAMETER write nothing. -/
theorem reads_airKept (a : List Byte) (s : State) :
    AirKept s (performReadPoint a s).1 ∧ AirKept s (performReadOutput a s).1 ∧
      AirKept s (performReadBooking a s).1 ∧ AirKept s (performReadParameter a s).1 := by
  refine ⟨tested_airKept ?_, tested_airKept ?_, tested_airKept ?_, tested_airKept ?_⟩ <;> split <;> exact .refl s

/-- R172: every request code. -/
theorem performCode_airKept (rq : Requester) (code : Byte) (a : List Byte) (s : State) :
    AirKept s (performCode rq code a s).1 := by
  unfold performCode
  split
  case h_1 => exact tested_airKept (.refl s)
  case h_2 => exact tested_done_airKept (.refl s)
  case h_3 => exact loadPoint_airKept a s
  case h_4 => exact deletePoint_airKept a s
  case h_5 => exact (reads_airKept a s).1
  case h_6 => exact loadZone_airKept a s
  case h_7 => exact tested_done_airKept (.refl s)
  case h_8 => exact tested_done_airKept (.of_eq rfl rfl)
  case h_9 => exact deleteOutput_airKept a s
  case h_10 => exact (reads_airKept a s).2.1
  case h_11 => exact tested_done_airKept (withStandby_airKept _ s)
  case h_12 => exact tested_done_airKept (withStandby_airKept _ s)
  case h_13 => exact tested_done_airKept ((evaluateBookings_airKept _).behind rfl rfl)
  case h_14 => exact (reads_airKept a s).2.2.1
  case h_15 => exact loadScene_airKept a s
  case h_16 => exact loadProfile_airKept a s
  case h_17 => exact tested_done_airKept (.of_eq rfl rfl)
  case h_18 => exact (reads_airKept a s).2.2.2
  case h_19 => exact tested_done_airKept (overrideEvent_airKept ..)
  case h_20 => exact tested_done_airKept (.refl s)
  case h_21 => exact clearNotices_airKept a s
  case h_22 => exact tested_done_airKept (.of_eq rfl rfl)
  case h_23 => exact tested_done_airKept (.of_eq rfl rfl)
  case h_24 => exact tested_done_airKept (enterHold_airKept 0 s)
  case h_25 => exact tested_done_airKept (enterRun_airKept s)
  case h_26 => exact drivePoint_airKept rq a s
  case h_27 => exact tested_done_airKept (roomResetEvent_airKept s)
  case h_28 => exact softReset_airKept a s
  case h_29 => exact .refl s

theorem offer_getD_airKept (p : Port) (f : Frame) (o : Owner) (r : Bool) {s t : State} (h : AirKept s t) :
    AirKept s ((offer p f o r s).getD t) := by
  rcases offer_cases p f o r s with ⟨-, heq⟩ | ⟨-, heq⟩ <;> rw [heq]
  · exact withPort_airKept ..
  · exact h

theorem replyTo_airKept (rq : Requester) (code : Byte) (p : Performed) : AirKept p.1 (replyTo rq code p) := by
  unfold replyTo
  split
  · split
    · exact .refl _
    · exact offer_getD_airKept _ _ _ _ (.refl _)
  · exact .refl _

theorem takeManage_airKept (rq : Requester) (value : List Byte) (s : State) : AirKept s (takeManage rq value s) := by
  unfold takeManage respond
  split
  · exact answer_airKept ..
  · split
    · exact answer_airKept ..
    · split
      · exact answer_airKept ..
      · refine .trans (.trans (.of_eq ?_ ?_) (performCode_airKept rq _ _ _)) (replyTo_airKept ..) <;> simp [accept]

theorem request_airKept (rq : Requester) (value : List Byte) (s : State) :
    AirKept s (request rq value (performCode rq (valueCode value) value.tail) s) := by
  unfold request
  split
  · split
    · exact (showFrame_shown ..).airKept.trans (takeManage_airKept rq value _)
    · exact withPort_airKept ..
  · exact .refl s

/-! ### Arrivals (R6, R27 to R38) -/

theorem relayUnconfirmed_airKept (p : Port) (f : Frame) (target : PointCode) (s : State) :
    AirKept s (relayUnconfirmed p f target s) := .ite (offer_getD_airKept _ _ _ _ (withPort_airKept ..))

theorem relayConfirmed_airKept (p : Port) (f : Frame) (target : PointCode) (o : Owner) (s : State) :
    AirKept s (relayConfirmed p f target o s s) := by
  unfold relayConfirmed offerCopy
  split
  · rcases offer_cases (otherPort p) (relayedCopy f target) o true s with ⟨-, heq⟩ | ⟨-, heq⟩ <;> rw [heq]
    · exact (withPort_airKept ..).trans (answer_airKept ..)
    · exact answer_airKept ..
  · exact .refl s

theorem passFrame_airKept (p : Port) (f : Frame) (target : PointCode) (s : State) :
    AirKept s (passFrame p f target s) := by
  unfold passFrame
  split
  · exact relayConfirmed_airKept ..
  · exact relayUnconfirmed_airKept ..

theorem consume_airKept (e : PointEntry) (f : Frame) (s : State) : AirKept s (consume e f s) := by
  unfold consume
  split
  · exact pointArrival_airKept ..
  · exact .refl s

theorem consumeCommand_airKept (e : PointEntry) (f : Frame) (s : State) : AirKept s (consumeCommand e f s) := by
  unfold consumeCommand
  split
  · exact .refl s
  · exact (updatePoint_airKept ..).trans (consume_airKept ..)

theorem takeFrame_airKept (p : Port) (e : PointEntry) (f : Frame) (s : State) : AirKept s (takeFrame p e f s) := by
  unfold takeFrame
  split
  · exact .refl s
  · split
    · exact (answer_airKept ..).trans (consumeCommand_airKept ..)
    · exact answer_airKept ..
  · exact .ite (consume_airKept ..)

theorem copyCommand_airKept (p : Port) (e : PointEntry) (f : Frame) (target : PointCode) (s : State) :
    AirKept s (copyCommand p e f target s) := by
  unfold copyCommand offerCopy
  split
  · rcases offer_cases (otherPort p) (relayedCopy f target) (.delivery f.target 0) true s with ⟨-, heq⟩ | ⟨-, heq⟩ <;> rw [heq]
    · exact ((withPort_airKept ..).trans (answer_airKept ..)).trans (consumeCommand_airKept ..)
    · exact answer_airKept ..
  · exact (answer_airKept ..).trans (consumeCommand_airKept ..)

theorem copyFrame_airKept (p : Port) (e : PointEntry) (f : Frame) (target : PointCode) (s : State) :
    AirKept s (copyFrame p e f target s) := by
  unfold copyFrame
  split
  · exact passFrame_airKept ..
  · split
    · exact copyCommand_airKept ..
    · exact answer_airKept ..
  · exact .ite ((relayUnconfirmed_airKept ..).trans (consume_airKept ..))

theorem pointFrame_airKept (p : Port) (f : Frame) (s : State) : AirKept s (pointFrame p f s) := by
  unfold pointFrame
  split
  · exact offer_getD_airKept _ _ _ _ (.refl s)
  · split
    · unfold listedFrame
      split
      · exact passFrame_airKept ..
      · exact takeFrame_airKept ..
      · exact copyFrame_airKept ..
      · exact .ite (answer_airKept ..)
    · exact .ite (passFrame_airKept ..)

theorem classify_airKept (p : Port) (f : Frame) (s : State) : AirKept s (classify p f s) := by
  unfold classify
  split
  · unfold manageFrame
    split
    · exact takeManage_airKept ..
    · exact .ite (relayConfirmed_airKept ..)
  · unfold manageReplyFrame
    split
    · exact .refl s
    · exact .ite (relayUnconfirmed_airKept ..)
  · exact pointFrame_airKept ..

theorem frameArrives_airKept (p : Port) (bytes : List Byte) (begun : Nat) (s : State) :
    AirKept s (frameArrives p bytes begun s) := by
  unfold frameArrives receive
  split
  · split
    · exact withPort_airKept ..
    · exact (showFrame_shown ..).airKept.trans (classify_airKept ..)
  · exact .refl s

theorem arbitrationLoses_airKept (p : Port) (winner : List Byte) (begun : Nat) (s : State) :
    AirKept s (arbitrationLoses p winner begun s) := by
  unfold arbitrationLoses
  split
  · split
    · exact (withPort_airKept ..).trans (frameArrives_airKept ..)
    · exact .refl s
  · exact .refl s

/-! ### Time (R80, log 3) -/

theorem takeMinute_airKept (s : State) : AirKept s (takeMinute s) := .ite ((advanceWing_airKept _).behind rfl rfl)

theorem groupTick_airKept (z : Zone) (s : State) : AirKept s (groupTick z s) := by
  unfold groupTick
  split
  · exact .refl s
  · exact .behind (.trans (.ite (raise_airKept ..)) (commitGroup_airKept ..)) rfl rfl

theorem takeGroupTick_airKept (s : State) (z : Zone) : AirKept s (takeGroupTick s z) := .ite (groupTick_airKept z s)

theorem takeExpiry_airKept (expires : State → Group → Bool) (z : Zone) (s : State) :
    AirKept s (takeExpiry expires z s) := by
  unfold takeExpiry
  split
  · exact .ite (takeGroupTick_airKept s z)
  · exact .refl s

theorem takePeriodic_airKept (s : State) (z : Zone) : AirKept s (takePeriodic s z) :=
  .ite ((airEvaluateZones_airKept ..).behind rfl rfl)

theorem takeDwell_airKept (s : State) (z : Zone) : AirKept s (takeDwell s z) := by
  unfold takeDwell
  refine .ite ?_
  dsimp only
  split
  · exact (airEvaluateZones_airKept ..).behind rfl rfl
  · exact .of_eq rfl rfl

theorem takeLightTick_airKept (s : State) (z : Zone) : AirKept s (takeLightTick s z) :=
  .ite ((lightTickZone_airKept ..).behind rfl rfl)

theorem takeSpacingEnd_airKept (s : State) (z : Zone) : AirKept s (takeSpacingEnd s z) := .ite (testBlind_airKept z s)

theorem updateOutput_airKept (i : OutIndex) (f : OutEntry → OutEntry) (s : State) : AirKept s (updateOutput i f s) :=
  .of_eq rfl rfl

theorem silenceExpires_airKept (c : PointCode) (s : State) : AirKept s (silenceExpires c s) := by
  unfold silenceExpires
  split
  · refine .ite (.trans ?_ (evidenceChanged_airKept ..))
    unfold clockSilent
    have h := (updatePoint_airKept c PointEntry.silent s).trans (raise_airKept .pointStale (detail16 c.toNat) _)
    split
    · exact (h.trans (raise_airKept ..)).trans (.of_eq rfl rfl)
    · exact h
  · exact .refl s

theorem sweep_airKept (s : State) : AirKept s (sweep s) := by
  have hf : ∀ {α : Type} {f : State → α → State} (_ : ∀ s a, AirKept s (f s a)) (l : List α) (u : State),
      AirKept u (l.foldl (asEvent f) u) := fun h l u => .foldl (fun s a => (h s a).trans (settle_airKept _)) l u
  unfold sweep
  refine .trans ?_ (hf (fun u i => updateOutput_airKept i _ u) _ _)
  refine .trans ?_ (hf takeSpacingEnd_airKept _ _)
  refine .trans ?_ (hf takeLightTick_airKept _ _)
  refine .trans ?_ (hf takePeriodic_airKept _ _)
  refine .trans ?_ (hf takeDwell_airKept _ _)
  refine .trans ?_ (hf takeGroupTick_airKept _ _)
  refine .trans ?_ (hf (fun u c => silenceExpires_airKept c u) _ _)
  exact (takeMinute_airKept s).trans (settle_airKept _)

theorem tickSecond_airKept (s : State) : AirKept s (tickSecond s) := by
  unfold tickSecond
  have h : AirKept s (sweep s) := sweep_airKept s
  refine .trans (h.trans ?_) (.foldl (fun u z => ?_) _ _)
  · generalize sweep s = u
    unfold advanceClock
    split
    · exact .of_eq rfl rfl
    · exact (advanceWing_airKept _).behind rfl rfl
  · unfold quietTick
    split
    · split
      · exact .refl u
      · exact takeGroupTick_airKept u z
    · exact .refl u

/-! ### Every command -/

theorem event_airKept {f : State → State} {s : State} (h : AirKept (clearPins s) (f (clearPins s))) :
    AirKept s (settle (f (clearPins s))) :=
  .trans (.trans (t := clearPins s) (.of_eq rfl rfl) h) (settle_airKept _)

/-- The offers of a command that only offers. -/
theorem Offered.airKept {s t : State} (h : Offered s t) : AirKept s t := h.frame.airKept

/-- Every command keeps the air within its range. -/
theorem exec_airKept (c : Instr) (s : State) : ∃ t, exec c s = .next t ∧ AirKept s t := by
  cases hreq : c.requestOf with
  | some x => exact ⟨_, exec_of_requestOf hreq s, event_airKept (request_airKept ..)⟩
  | none =>
    cases c
    case powerOnReset a b n => exact ⟨_, exec_powerOnReset a b n s,
      ⟨fun _ => airInRange_of_reset (n := 200) rfl fun z c hc => by simp [powerOnEvent, State.powerOn] at hc⟩⟩
    case linePowerUp p => exact ⟨_, rfl, event_airKept (powerUp_airKept p _)⟩
    case linePowerLoss p => exact ⟨_, rfl, event_airKept (powerLoss_airKept p _)⟩
    case frameArrival p bytes begun => exact ⟨_, rfl, event_airKept (frameArrives_airKept p bytes begun _)⟩
    case frameStart p => exact ⟨_, rfl, event_airKept (startHead_airKept p _)⟩
    case arbitrationLost p w => exact ⟨_, rfl, event_airKept (arbitrationLoses_airKept p w.1 w.2 _)⟩
    case transmissionOutcome p heard => exact ⟨_, rfl, event_airKept (outcomeFixed_airKept p heard _)⟩
    case outboundAdmission => exact ⟨_, rfl, event_airKept (arbiter_offered _).airKept⟩
    case driveReoffer => exact ⟨_, rfl, event_airKept (offerDrive_offered _).airKept⟩
    case deferredReplyOffer =>
      exact ⟨_, rfl, event_airKept (f := fun s => offerDeferred .room (offerDeferred .trunk s))
        ((offerDeferred_offered .trunk _).trans (offerDeferred_offered .room _)).airKept⟩
    case noticeOffer =>
      exact ⟨_, rfl, event_airKept (f := fun s => offerNotices (offerDeferred .trunk s))
        ((offerDeferred_offered .trunk _).airKept.trans (offerNotices_emitted _).frame.airKept)⟩
    case groupReportOffer => exact ⟨_, rfl, event_airKept (f := settleTrunk) (settleTrunk_offered _).airKept⟩
    case trunkLineResetSignal => exact ⟨_, rfl, event_airKept (f := signalEnds) (signalEnds_airKept _)⟩
    case roomLineResetSignal => exact ⟨_, rfl, event_airKept (withPort_airKept ..)⟩
    case elapsedSecondTick => exact ⟨_, rfl, event_airKept (tickSecond_airKept _)⟩
    case minuteBoundary => exact ⟨_, rfl, event_airKept (takeMinute_airKept _)⟩
    case silenceExpiry code => exact ⟨_, rfl, event_airKept (silenceExpires_airKept code _)⟩
    case overrideExpiry z => exact ⟨_, rfl, event_airKept (takeExpiry_airKept overrideReached z _)⟩
    case holdoverExpiry z => exact ⟨_, rfl, event_airKept (takeExpiry_airKept holdoverReached z _)⟩
    case noShowExpiry z => exact ⟨_, rfl, event_airKept (takeExpiry_airKept noShowReached z _)⟩
    case quietTimeExpiry z => exact ⟨_, rfl, event_airKept (takeExpiry_airKept quietTaken z _)⟩
    case periodicEvaluation z => exact ⟨_, rfl, event_airKept (takePeriodic_airKept _ z)⟩
    case windowDwell z => exact ⟨_, rfl, event_airKept (takeDwell_airKept _ z)⟩
    case lightTick z => exact ⟨_, rfl, event_airKept (takeLightTick_airKept _ z)⟩
    case spacingEnd z => exact ⟨_, rfl, event_airKept (takeSpacingEnd_airKept _ z)⟩
    case backoffEnd i => exact ⟨_, rfl, event_airKept (updateOutput_airKept i _ _)⟩
    case reattempt i => exact ⟨_, rfl, event_airKept (updateOutput_airKept i _ _)⟩
    case refresh i => exact ⟨_, rfl, event_airKept (updateOutput_airKept i _ _)⟩
    case trunkResetSignalSeen => exact ⟨_, rfl, event_airKept (.ite (.of_eq rfl rfl))⟩
    all_goals exact absurd hreq nofun

end Sys2Proof.Machine

open Sys2Proof Sys2Proof.Machine

/-- Settles O8: an evaluation moves D_out no further than a target within D_max (airStages_le), and every command leaves the zone
records in range (exec_airKept). -/
theorem stepKeepsAirflowInRange : Obligations.StepKeepsAirflowInRange := by
  intro s t hc ha h
  have hs : AirInRange s := airInRange_iff.mpr ⟨hc, ha⟩
  have hk : AirKept s t := by
    cases hq : s.pending with
    | nil =>
      rw [step_nil hq] at h
      cases h
      exact .refl s
    | cons c rest =>
      obtain ⟨u, hu, hk⟩ := exec_airKept c { s with pending := rest }
      cases (step_cons hq).symm.trans h |>.symm.trans hu
      exact hk.behind rfl rfl
  exact (airInRange_iff.mp (hk.inRange hs)).2
end


section
/-! SUPPORT. What handing a group change on leaves (R114, R122, R144): the air demand unit and the light and shade unit touch their
own records and the outbound table; of the groups only the manual scene of the one handed on can change. -/

namespace Sys2Proof.Machine

/-! ### The units alone -/

/-- What evaluations and scene changes can touch; they raise AIR_LIMITED only. -/
structure UnitWork (s t : State) : Prop where
  frame : t = { s with
    room := { s.room with queue := t.room.queue }
    air := t.air
    light := t.light
    outputs := t.outputs
    notices := t.notices
    free := t.free }
  notices : ∀ k, k ≠ .airLimited → t.notice k = s.notice k

theorem UnitWork.refl (s : State) : UnitWork s s := ⟨rfl, fun _ _ => rfl⟩

theorem UnitWork.trans {s t u : State} (a : UnitWork s t) (b : UnitWork t u) : UnitWork s u :=
  ⟨by rw [b.frame, a.frame], fun k hk => (b.notices k hk).trans (a.notices k hk)⟩

theorem UnitWork.foldl {α : Type} {f : State → α → State} (h : ∀ s a, UnitWork s (f s a)) (l : List α) (s : State) :
    UnitWork s (l.foldl f s) := foldl_related .refl .trans h l s

theorem UnitWork.ite {c : Prop} [Decidable c] {s t : State} (h : UnitWork s t) : UnitWork s (if c then t else s) := by
  split <;> [exact h; exact .refl s]

theorem handTo_unitWork (z : Zone) (f : OutFunction) (v : OutValue) (s : State) : UnitWork s (handTo z f v s) :=
  ⟨rfl, fun _ _ => rfl⟩

theorem updateLight_unitWork (z : Zone) (f : LightRecord → LightRecord) (s : State) : UnitWork s (updateLight z f s) :=
  ⟨rfl, fun _ _ => rfl⟩

theorem testBlind_unitWork (z : Zone) (s : State) : UnitWork s (testBlind z s) := by
  unfold testBlind
  dsimp only
  split
  · exact .ite (((updateLight_unitWork z _ s).trans (handTo_unitWork ..)).trans (handTo_unitWork ..))
  · exact .refl s

theorem sceneChange_unitWork (z : Zone) (sel : Selection) (s : State) : UnitWork s (sceneChange z sel s) :=
  ((updateLight_unitWork z _ s).trans (.foldl (fun _ _ => handTo_unitWork ..) _ _)).trans
    ((updateLight_unitWork z _ _).trans (testBlind_unitWork z _))

theorem selectMember_unitWork (sel : Selection) (force : Bool) (s : State) (z : Zone) :
    UnitWork s (selectMember sel force s z) := .ite (sceneChange_unitWork ..)

theorem airEvaluate_unitWork (periodic : Bool) (s : State) (z : Zone) : UnitWork s (airEvaluate periodic s z) := by
  unfold airEvaluate
  split
  · rename_i c _ g _ _
    have ha : UnitWork s { s with air := s.air.set z (airStages s periodic z c g) } := ⟨rfl, fun _ _ => rfl⟩
    exact (ha.trans (handTo_unitWork ..)).trans (handTo_unitWork ..)
  · exact .refl s

theorem raiseOneOf_airLimited_unitWork (ds : List (BitVec 24)) (s : State) : UnitWork s (raiseOneOf .airLimited ds s) := by
  by_cases h : ds = []
  · subst h; exact .refl s
  · obtain ⟨d, -, n, heq⟩ := raiseOneOf_eq (k := .airLimited) h s
    have hw : UnitWork s { s with free := n } := ⟨rfl, fun _ _ => rfl⟩
    rw [heq]
    exact hw.trans ⟨by rw [raise_eq]; rfl, fun k hk => raise_other d _ hk.symm⟩

theorem airEvaluateZones_unitWork (periodic : Bool) (zs : List Zone) (s : State) :
    UnitWork s (airEvaluateZones periodic zs s) :=
  (UnitWork.foldl (airEvaluate_unitWork periodic) zs s).trans (raiseOneOf_airLimited_unitWork ..)

/-! ### A group change handed on -/

/-- A group without its manual scene. -/
def Group.withoutScene (g : Group) : Group := { g with manualScene := none }

/-- What handing on the change of the group with leader `l` can touch: the units, and the manual scene of that group. -/
structure HandedOn (l : Zone) (s t : State) : Prop where
  units : UnitWork { s with groups := t.groups } t
  others : ∀ y : Zone, y ≠ l → t.groups[y] = s.groups[y]
  own : t.groups[l] = s.groups[l] ∨ t.groups[l] = s.groups[l].map Group.withoutScene

theorem HandedOn.refl (l : Zone) (s : State) : HandedOn l s s := ⟨.refl s, fun _ _ => rfl, .inl rfl⟩

theorem UnitWork.groups {s t : State} (h : UnitWork s t) : t.groups = s.groups := by rw [h.frame]

theorem UnitWork.handedOn {s t : State} (l : Zone) (h : UnitWork s t) : HandedOn l s t := by
  have hg := h.groups
  refine ⟨?_, fun y _ => by rw [hg], .inl (by rw [hg])⟩
  rw [hg]
  exact h

theorem HandedOn.trans {l : Zone} {s t u : State} (a : HandedOn l s t) (b : HandedOn l t u) : HandedOn l s u where
  units := by
    obtain ⟨hf, hn⟩ := a.units
    exact .trans (t := { t with groups := u.groups })
      ⟨congrArg (fun x : State => { x with groups := u.groups }) hf, hn⟩ b.units
  others y hy := (b.others y hy).trans (a.others y hy)
  own := by
    rcases b.own with h | h <;> rcases a.own with h' | h' <;> rw [h, h']
    · exact .inl rfl
    · exact .inr rfl
    · exact .inr rfl
    · exact .inr (by rw [Option.map_map]; rfl)

theorem selectGroup_handedOn (l : Zone) (clear force : Bool) (s : State) : HandedOn l s (selectGroup l clear force s) := by
  unfold selectGroup
  split
  · exact .refl l s
  · rename_i g hg
    refine .trans (t := { s with groups := s.groups.set l _ }) ⟨.refl _, fun y hy => ?_, ?_⟩
      (UnitWork.foldl (selectMember_unitWork _ force) _ _ |>.handedOn l)
    · have hv : l.val ≠ y.val := fun e => hy (Fin.ext e).symm
      simp [hv]
    · rw [hg]
      split
      · exact .inr (by simp [Group.withoutScene])
      · exact .inl (by simp)

theorem handGroupChange_handedOn (l : Zone) (old new : Group) (started membership : Bool) (s : State) :
    HandedOn l s (handGroupChange l old new started membership s) := by
  have h : HandedOn l s (selectGroup l (changeClears old new started) false
      (if membership || promptsAir old new then airEvaluateZones false new.members s else s)) :=
    ((UnitWork.ite (airEvaluateZones_unitWork ..)).handedOn l).trans (selectGroup_handedOn ..)
  unfold handGroupChange
  split
  · exact h
  · exact .refl l s

/-! ### A record committed (R114, R117) -/

/-- A group without what the handing on and the offers can change in it: its manual scene and its report's mark. -/
def Group.bare (g : Group) : Group := { g with manualScene := none, reportPending := false }

theorem Group.bare_withoutScene (g : Group) : g.withoutScene.bare = g.bare := rfl

theorem Group.bare_unmarked (g : Group) : g.unmarked.bare = g.bare := rfl

theorem Group.bare_marked (g : Group) (c : Prop) [Decidable c] :
    (if c then { g with reportPending := true } else g).bare = g.bare := by split <;> rfl

theorem HandedOn.bare {l : Zone} {s t : State} (h : HandedOn l s t) (y : Zone) :
    t.groups[y].map Group.bare = s.groups[y].map Group.bare := by
  by_cases hy : y = l
  · subst hy
    rcases h.own with h | h <;> rw [h]
    rw [Option.map_map]
    rfl
  · rw [h.others y hy]

/-- What a commit at leader `l` can touch besides the group records: what handing on can, and the pending times of a
confirmed group's members. -/
theorem commitGroup_handedOn (l : Zone) (old new : Group) (started membership : Bool) (s : State) : ∃ e b,
    HandedOn l { s with evidence := e, groups := s.groups.set l (some { new with reportPending := b }) }
      (commitGroup l old new started membership s) := by
  obtain ⟨b, hb⟩ : ∃ b, (if reportDiffers old new then { new with reportPending := true } else new) =
      { new with reportPending := b } := by
    split
    · exact ⟨true, rfl⟩
    · exact ⟨new.reportPending, rfl⟩
  unfold commitGroup
  rw [hb]
  dsimp only
  split
  · exact ⟨_, b, handGroupChange_handedOn ..⟩
  · exact ⟨s.evidence, b, handGroupChange_handedOn ..⟩

/-- R114, R117: a commit leaves the new record at its leader, but for its manual scene and its report's mark. -/
theorem commitGroup_bare (l : Zone) (old new : Group) (started membership : Bool) (s : State) :
    (commitGroup l old new started membership s).groups[l].map Group.bare = some new.bare := by
  obtain ⟨e, b, h⟩ := commitGroup_handedOn l old new started membership s
  rw [h.bare l]
  simp [Group.bare]

/-- R13: the offers leave a record but for its report's mark. -/
theorem Offered.bare {s t : State} (h : Offered s t) (y : Zone) : t.groups[y].map Group.bare = s.groups[y].map Group.bare := by
  have hm : ∀ o : Option Group, o.map Group.bare = (o.map Group.unmarked).map Group.bare := fun o => by
    rw [Option.map_map]; rfl
  rw [hm t.groups[y], h.groups y, ← hm]

/-- A record that is another's but for manual scene and mark. -/
theorem exists_of_map_bare {o : Option Group} {g : Group} (h : o.map Group.bare = some g.bare) :
    ∃ x, o = some x ∧ x.bare = g.bare := Option.map_eq_some_iff.mp h

/-! ### The group that holds a zone (R66) -/

/-- R66: what the lookup of a zone finds is a record at its leader that lists the zone. -/
theorem groupOf_some {s : State} {z l : Zone} {g : Group} (h : groupOf s z = some (l, g)) :
    s.groups[l] = some g ∧ z ∈ g.members := by
  obtain ⟨y, -, hy⟩ := List.exists_of_findSome?_eq_some h
  split at hy
  · rename_i x hx
    split at hy
    · rename_i hc
      cases hy
      exact ⟨hx, by simpa using hc⟩
    · cases hy
  · cases hy

/-- R66: the lookup reads the group records only. -/
theorem groupOf_congr {s t : State} (h : t.groups = s.groups) (z : Zone) : groupOf t z = groupOf s z := by
  unfold groupOf
  rw [h]

end Sys2Proof.Machine
end


section
/-! SUPPORT. The records an override leaves (R67, R100, R107, R110), and the frame of an event of the occupancy logic. -/

namespace Sys2Proof.Machine

/-! ### Entries and overrides keep the membership -/

@[simp] theorem enterGroup_state (s : State) (st : Occupancy) (g : Group) : (enterGroup s st g).state = st := by
  cases st <;> rfl
@[simp] theorem enterGroup_members (s : State) (st : Occupancy) (g : Group) : (enterGroup s st g).members = g.members := by
  cases st <;> rfl
@[simp] theorem enterGroup_effOverride (s : State) (st : Occupancy) (g : Group) :
    (enterGroup s st g).effOverride = g.effOverride := by cases st <;> rfl
@[simp] theorem enterGroup_booking (s : State) (st : Occupancy) (g : Group) : (enterGroup s st g).booking = g.booking := by
  cases st <;> rfl
@[simp] theorem enterGroup_lastPresence (s : State) (st : Occupancy) (g : Group) :
    (enterGroup s st g).lastPresence = g.lastPresence := by cases st <;> rfl
@[simp] theorem enterGroup_manualScene (s : State) (st : Occupancy) (g : Group) :
    (enterGroup s st g).manualScene = g.manualScene := by cases st <;> rfl

@[simp] theorem recount_state (s : State) (g : Group) : (recount s g).state = g.state := by
  unfold recount; split <;> rfl
@[simp] theorem recount_members (s : State) (g : Group) : (recount s g).members = g.members := by
  unfold recount; split <;> rfl
@[simp] theorem recount_effOverride (s : State) (g : Group) : (recount s g).effOverride = g.effOverride := by
  unfold recount; split <;> rfl
@[simp] theorem recount_booking (s : State) (g : Group) : (recount s g).booking = g.booking := by
  unfold recount; split <;> rfl
@[simp] theorem recount_lastPresence (s : State) (g : Group) : (recount s g).lastPresence = g.lastPresence := by
  unfold recount; split <;> rfl
@[simp] theorem recount_manualScene (s : State) (g : Group) : (recount s g).manualScene = g.manualScene := by
  unfold recount; split <;> rfl

/-- R110: a change of effective override leaves the record, recounts it, or enters it into a state. -/
theorem applyOverride_cases (s : State) (before : OverrideMode) (g : Group) :
    applyOverride s before g = g ∨ applyOverride s before g = recount s g ∨
      ∃ st, applyOverride s before g = enterGroup s st g := by
  unfold applyOverride
  split
  · exact .inl rfl
  · (repeat' split) <;> first | exact .inl rfl | exact .inr (.inl rfl) | exact .inr (.inr ⟨_, rfl⟩)

theorem applyOverride_self {s : State} {before : OverrideMode} {g : Group} (h : g.effOverride = before) :
    applyOverride s before g = g := if_pos h

@[simp] theorem applyOverride_members (s : State) (before : OverrideMode) (g : Group) :
    (applyOverride s before g).members = g.members := by
  rcases applyOverride_cases s before g with h | h | ⟨st, h⟩ <;> rw [h] <;> simp
@[simp] theorem applyOverride_effOverride (s : State) (before : OverrideMode) (g : Group) :
    (applyOverride s before g).effOverride = g.effOverride := by
  rcases applyOverride_cases s before g with h | h | ⟨st, h⟩ <;> rw [h] <;> simp
@[simp] theorem applyOverride_booking (s : State) (before : OverrideMode) (g : Group) :
    (applyOverride s before g).booking = g.booking := by
  rcases applyOverride_cases s before g with h | h | ⟨st, h⟩ <;> rw [h] <;> simp
@[simp] theorem applyOverride_lastPresence (s : State) (before : OverrideMode) (g : Group) :
    (applyOverride s before g).lastPresence = g.lastPresence := by
  rcases applyOverride_cases s before g with h | h | ⟨st, h⟩ <;> rw [h] <;> simp
@[simp] theorem applyOverride_manualScene (s : State) (before : OverrideMode) (g : Group) :
    (applyOverride s before g).manualScene = g.manualScene := by
  rcases applyOverride_cases s before g with h | h | ⟨st, h⟩ <;> rw [h] <;> simp

/-- R110: a group that becomes forced occupied is OCCUPIED. -/
theorem applyOverride_forceOccupied {s : State} {before : OverrideMode} {g : Group} (hg : g.effOverride = .forceOccupied)
    (hb : before ≠ .forceOccupied) : (applyOverride s before g).state = .occupied := by
  unfold applyOverride
  rw [if_neg (by rw [hg]; exact hb.symm), hg]
  dsimp only
  split
  · rename_i h
    simp [h]
  · simp

/-- R110: a group that becomes forced vacant is VACANT with head count 0. -/
theorem applyOverride_forceVacant {s : State} {before : OverrideMode} {g : Group} (hg : g.effOverride = .forceVacant)
    (hb : before ≠ .forceVacant) :
    (applyOverride s before g).state = .vacant ∧ (applyOverride s before g).headCount = 0 := by
  unfold applyOverride
  rw [if_neg (by rw [hg]; exact hb.symm), hg]
  dsimp only
  split
  · rename_i h
    exact ⟨by simp [h], by simp [recount, h]⟩
  · exact ⟨by simp, rfl⟩

/-! ### The frame of an event of the occupancy logic -/

theorem RoomFrame.trans {s t u : State} (a : RoomFrame s t) (b : RoomFrame t u) : RoomFrame s u := by
  unfold RoomFrame at *
  rw [b, a]

theorem RoomWork.roomFrame {s t : State} (h : RoomWork s t) : RoomFrame s t := by
  unfold RoomFrame
  rw [h.frame]

theorem OffersFrame.roomFrame {s t : State} (h : OffersFrame s t) : RoomFrame s t := by
  unfold OffersFrame at h
  unfold RoomFrame
  rw [h]

/-- R67: the effective override reads the overrides only. -/
theorem effectiveOverride_congr {s t : State} (h : t.overrides = s.overrides) (members : List Zone) :
    effectiveOverride t members = effectiveOverride s members := by
  unfold effectiveOverride
  rw [h]

/-! ### SET_OVERRIDE (R107, R177) -/

/-- R107: the override of a zone written. -/
def withOverride (z : Zone) (o : ZoneOverride) (s : State) : State := { s with overrides := s.overrides.set z o }

/-- R107, R110: the record of a group after its effective override is taken anew. -/
def overriddenGroup (s : State) (g : Group) : Group := applyOverride s g.effOverride (refreshOverride s g)

/-- R107: an override event for a zone of a group. -/
theorem overrideEvent_eq {z l : Zone} {g : Group} {s : State} (hz : present s z = true) (hg : groupOf s z = some (l, g))
    (mode : OverrideMode) (minutes : Nat) : overrideEvent z mode minutes s =
      commitGroup l g (overriddenGroup (withOverride z (overrideSet mode minutes s.elapsed) s) g) false false
        (withOverride z (overrideSet mode minutes s.elapsed) s) := by
  have hg' : groupOf (withOverride z (overrideSet mode minutes s.elapsed) s) z = some (l, g) :=
    (groupOf_congr rfl z).trans hg
  unfold overrideEvent
  rw [if_pos hz]
  show groupEvent z _ (withOverride z _ s) = _
  unfold groupEvent
  rw [hg']
  rfl

/-- R177: the mode a code names. -/
theorem ofCode_getD (n : Nat) (h : n ≤ 2) : (OverrideMode.ofCode n).getD .auto =
    if n = 0 then .auto else if n = 1 then .forceOccupied else .forceVacant := by
  match n, h with
  | 0, _ | 1, _ | 2, _ => rfl

/-- R107: the override a SET_OVERRIDE of a mode's code writes. -/
theorem overrideSet_ofCode (n : Nat) (h : n ≤ 2) (minutes t : Nat) :
    overrideSet ((OverrideMode.ofCode n).getD .auto) minutes t =
      ⟨if n = 0 then .auto else if n = 1 then .forceOccupied else .forceVacant,
        if n = 0 ∨ minutes = 0 then none else some (t + 60 * minutes)⟩ := by
  match n, h with
  | 0, _ | 1, _ | 2, _ => simp [OverrideMode.ofCode, overrideSet]

theorem zoneAt_of_val {n : Nat} {z : Zone} (h : n = z.val) : zoneAt n = z := by
  subst h
  exact Fin.ext (Nat.mod_eq_of_lt z.isLt)

/-- R177: a SET_OVERRIDE in range is performed. -/
theorem performSetOverride_ok {a : List Byte} {z : Zone} {u : State} (hl : a.length = 4) (hz : u8 a 0 = z.val)
    (hp : present u z = true) (hm : u8 a 1 ≤ 2) (ht : u16 a 2 ≤ 720) :
    performSetOverride a u = done [] (overrideEvent z ((OverrideMode.ofCode (u8 a 1)).getD .auto) (u16 a 2) u) := by
  have hr : overrideInRange u a = true := by
    have hz3 : z.val ≤ 3 := Nat.le_of_lt_succ z.isLt
    simp [overrideInRange, hp, hm, ht, hz, hz3]
  unfold performSetOverride
  rw [firstFailing_none (by simp [hl, hr]), tested_none, zoneAt_of_val hz]

/-- R107: the override that a SET_OVERRIDE of these arguments writes. -/
def requestedOverride (a : List Byte) (s : State) : ZoneOverride :=
  ⟨if u8 a 1 = 0 then .auto else if u8 a 1 = 1 then .forceOccupied else .forceVacant,
    if u8 a 1 = 0 ∨ u16 a 2 = 0 then none else some (s.elapsed + 60 * u16 a 2)⟩

/-- R107, R177: an accepted SET_OVERRIDE in range writes the override, commits the overridden record of the zone's group, and
replies OK. -/
theorem exec_setOverride {rq : Requester} {a : List Byte} {z l : Zone} {g : Group} {s w : State} (h : Accepted rq (19 :: a) s)
    (hl : a.length = 4) (hz : u8 a 0 = z.val) (hp : present s z = true) (hm : u8 a 1 ≤ 2) (ht : u16 a 2 ≤ 720)
    (hg : groupOf s z = some (l, g)) (hw : w = withOverride z (requestedOverride a s) (acceptedBy rq (19 :: a) s)) :
    exec (.setOverride rq a) s =
      .next (settle (withReply rq 19 .ok [] (commitGroup l g (overriddenGroup w g) false false w))) := by
  have hu := acceptedBy_frame rq (19 :: a) s
  have hp' : present (acceptedBy rq (19 :: a) s) z = true := by rw [present, acceptedBy_zones]; exact hp
  have hg' : groupOf (acceptedBy rq (19 :: a) s) z = some (l, g) := (groupOf_congr (by rw [hu]) z).trans hg
  have he : (acceptedBy rq (19 :: a) s).elapsed = s.elapsed := by rw [hu]
  have hperf := performSetOverride_ok hl hz hp' hm ht
  have hadm := admits_acceptedBy h
  rw [overrideEvent_eq hp' hg', overrideSet_ofCode _ hm, he, ← requestedOverride, ← hw] at hperf
  have hwork : RoomWork w (commitGroup l g (overriddenGroup w g) false false w) := commitGroup_roomWork ..
  have hwadm : admits rq.port false w = admits rq.port false (acceptedBy rq (19 :: a) s) := by rw [hw]; rfl
  have hx := exec_performed (c := .setOverride rq a) rfl h (valueCode_cons_ne (by decide) a) hperf
  exact hx ((hwork.event.admits rq.port false).trans (hwadm.trans hadm))

end Sys2Proof.Machine

open Sys2Proof Sys2Proof.Machine

/-- Settles O54: the command commits the overridden record (exec_setOverride, commitGroup_bare), and R110 gives its state
(applyOverride_forceOccupied, applyOverride_forceVacant). -/
theorem setOverrideForcesTheGroup : Obligations.SetOverrideForcesTheGroup := by
  intro rq a z l g s h hl hz hp hm ht hg
  have ho : (acceptedBy rq (19 :: a) s).overrides = s.overrides := by rw [acceptedBy_frame]
  obtain ⟨w, hw⟩ : ∃ w, w = withOverride z (requestedOverride a s) (acceptedBy rq (19 :: a) s) := ⟨_, rfl⟩
  have hx := exec_setOverride h hl hz hp hm ht hg hw
  have hwo : w.overrides = s.overrides.set z (requestedOverride a s) := by rw [hw, ← ho]; rfl
  have hwf : RoomFrame (acceptedBy rq (19 :: a) s) w := by rw [hw]; rfl
  have hwork : RoomWork w (commitGroup l g (overriddenGroup w g) false false w) := commitGroup_roomWork ..
  have hb := commitGroup_bare l g (overriddenGroup w g) false false w
  generalize commitGroup l g (overriddenGroup w g) false false w = x at hx hwork hb
  have hoff : Offered x (settle (withReply rq 19 .ok [] x)) := (withReply_offered ..).trans (settle_offered _)
  have hxo : x.overrides = w.overrides := by rw [hwork.frame]
  have hto : (settle (withReply rq 19 .ok [] x)).overrides = s.overrides.set z (requestedOverride a s) := by
    rw [hoff.frame]
    exact hxo.trans hwo
  obtain ⟨y, hy, hyb⟩ := exists_of_map_bare ((hoff.bare l).trans hb)
  have hmem : y.members = g.members := (congrArg Group.members hyb).trans (applyOverride_members ..)
  have heff : y.effOverride = effectiveOverride w g.members :=
    (congrArg Group.effOverride hyb).trans (applyOverride_effOverride ..)
  refine ⟨_, y, hx, replied_settle .., ?_, fun v hv => ?_, hy, hmem, ?_, fun hf hn => ?_, fun hf hn => ?_, ?_⟩
  · rw [hto]
    simp [requestedOverride]
  · have hval : z.val ≠ v.val := fun e => hv (Fin.ext e).symm
    rw [hto]
    simp [hval]
  · rw [heff]
    exact (effectiveOverride_congr (hto.trans hwo.symm) _).symm
  · exact (congrArg Group.state hyb).trans (applyOverride_forceOccupied (heff.symm.trans hf) hn)
  · obtain ⟨hs, hc⟩ := applyOverride_forceVacant (s := w) (g := refreshOverride w g) (heff.symm.trans hf) hn
    exact ⟨(congrArg Group.state hyb).trans hs, (congrArg Group.headCount hyb).trans hc⟩
  · exact (hwf.trans hwork.roomFrame).trans hoff.frame.roomFrame
end


section
/-! SUPPORT. The group tick that an expiry takes (R99, R100, R103, R104, R106, R108, R110, R111). -/

namespace Sys2Proof.Machine

/-! ### What a tick leaves (R111) -/

/-- R108, R111: the state in which a tick of a group takes its steps: no pin driven, the members' marks cleared, and their
overrides whose expiry is reached AUTO. -/
def tickStart (g : Group) (s : State) : State := expireOverrides g.members (clearTickMarks g.members (clearPins s))

theorem tickStart_frame (g : Group) (s : State) : RoomFrame s (tickStart g s) := rfl

@[simp] theorem tickStart_elapsed (g : Group) (s : State) : (tickStart g s).elapsed = s.elapsed := rfl
@[simp] theorem tickStart_params (g : Group) (s : State) : (tickStart g s).params = s.params := rfl

theorem tickStart_override (g : Group) (s : State) (y : Zone) : (tickStart g s).overrides[y] =
    if y ∈ g.members ∧ reached s.overrides[y].expiry s.elapsed = true then ⟨.auto, none⟩ else s.overrides[y] := by
  refine (forZones_get _ y).trans ?_
  simp only [Bool.and_eq_true, List.contains_iff_mem]
  rfl

/-- R111: a tick that started in `w` leaves the group as `h`, with the members' marks cleared, and raises NO_SHOW where it takes
the group to that state. -/
structure GroupTicked (l : Zone) (g h : Group) (s w t : State) : Prop where
  frame : RoomFrame s t
  overrides : t.overrides = w.overrides
  marks : ∀ y : Zone, t.due.groupTick[y] = if y ∈ g.members then false else s.due.groupTick[y]
  record : t.groups[l].map Group.bare = some h.bare
  noShow : h.state = .noShow → g.state ≠ .noShow → (t.notice .noShow).flag = true ∧
    (t.notice .noShow).detail = some (BitVec.ofNat 16 h.reportedBooking ++ BitVec.ofNat 8 l.val)

/-- R106, R180: the state before the commit of a tick: NO_SHOW raised where the tick takes the group there. -/
def tickRaised (l : Zone) (g h : Group) (s : State) : State :=
  if h.state == .noShow && g.state != .noShow then raise .noShow (detail16and8 h.reportedBooking l.val) s else s

theorem tickRaised_eq (l : Zone) (g h : Group) (s : State) : ∃ n, tickRaised l g h s = { s with notices := n } := by
  unfold tickRaised
  split
  · exact ⟨_, raise_eq ..⟩
  · exact ⟨s.notices, rfl⟩

theorem groupTick_eq {z l : Zone} {g : Group} {s : State} (h : groupOf s z = some (l, g)) :
    groupTick z (clearPins s) = commitGroup l g (tickGroup (tickStart g s) g) false false
      (tickRaised l g (tickGroup (tickStart g s) g) (tickStart g s)) := by
  have hg : groupOf (clearPins s) z = some (l, g) := (groupOf_congr rfl z).trans h
  unfold groupTick
  rw [hg]
  rfl

theorem groupTick_ticked {z l : Zone} {g : Group} {s : State} (h : groupOf s z = some (l, g)) :
    GroupTicked l g (tickGroup (tickStart g s) g) s (tickStart g s) (settle (groupTick z (clearPins s))) := by
  rw [groupTick_eq h]
  have hstart := tickStart_frame g s
  have hmarks : ∀ y : Zone, (tickStart g s).due.groupTick[y] = if y ∈ g.members then false else s.due.groupTick[y] :=
    fun y => by
      refine (forZones_get _ y).trans ?_
      by_cases hy : y ∈ g.members <;> simp [hy]
  generalize tickStart g s = w at hstart hmarks ⊢
  obtain ⟨n, hr⟩ := tickRaised_eq l g (tickGroup w g) w
  have hraise : (tickGroup w g).state = .noShow → g.state ≠ .noShow → tickRaised l g (tickGroup w g) w =
      raise .noShow (detail16and8 (tickGroup w g).reportedBooking l.val) w := fun h1 h2 => if_pos (by simp [h1, h2])
  generalize tickGroup w g = h at hr hraise ⊢
  have hwork : RoomWork (tickRaised l g h w) (commitGroup l g h false false (tickRaised l g h w)) := commitGroup_roomWork ..
  have hbare := commitGroup_bare l g h false false (tickRaised l g h w)
  generalize commitGroup l g h false false (tickRaised l g h w) = x at hwork hbare ⊢
  have hoff := settle_offered x
  have hrf : RoomFrame w (tickRaised l g h w) := by rw [hr]; rfl
  refine ⟨((hstart.trans hrf).trans hwork.roomFrame).trans hoff.frame.roomFrame, ?_, fun y => ?_, (hoff.bare l).trans hbare,
    fun h1 h2 => ?_⟩
  · rw [hoff.frame]
    exact (by rw [hwork.frame] : x.overrides = (tickRaised l g h w).overrides).trans (by rw [hr])
  · have hd : x.due = w.due := (by rw [hwork.frame] : x.due = (tickRaised l g h w).due).trans (by rw [hr])
    rw [← hmarks y, ← hd, hoff.frame]
  · obtain ⟨hf, hdet⟩ := hoff.notices .noShow
    have hn := hwork.notices .noShow (by decide) (by decide)
    rw [hf, hdet, hn, hraise h1 h2, raise_self]
    exact ⟨rfl, rfl⟩

/-- R111: an expiry of the opcode table that is reached takes the tick that is due. -/
theorem takeExpiry_ticks {expires : State → Group → Bool} {z l : Zone} {g : Group} {s : State}
    (h : groupOf s z = some (l, g)) (hd : s.due.groupTick[z] = true) (he : expires (clearPins s) g = true) :
    takeExpiry expires z (clearPins s) = groupTick z (clearPins s) := by
  have hg : groupOf (clearPins s) z = some (l, g) := (groupOf_congr rfl z).trans h
  unfold takeExpiry
  simp only [hg, he, if_true]
  exact if_pos hd

/-- R104, R106, R103, R108: the command of a reached expiry ends in the tick of its group. -/
theorem exec_expiry_ticks {expires : State → Group → Bool} {c : Instr} {z l : Zone} {g : Group} {s : State}
    (hc : exec c s = event (takeExpiry expires z) s) (h : groupOf s z = some (l, g)) (hd : s.due.groupTick[z] = true)
    (he : expires (clearPins s) g = true) : ∃ t, exec c s = .next t ∧ GroupTicked l g (tickGroup (tickStart g s) g) s (tickStart g s) t :=
  ⟨_, by rw [hc, event_eq, takeExpiry_ticks h hd he], groupTick_ticked h⟩

/-! ### The steps of a tick -/

/-- R67, R110: step 1 of a tick, the effective override taken anew. -/
theorem tickGroup_eq (s : State) (g : Group) : tickGroup s g =
    let g1 := overriddenGroup s g
    let g2 := if holdoverReached s g1 then enterGroup s (afterHoldover g1) g1
      else if noShowReached s g1 then enterGroup s .noShow g1 else g1
    if g2.effOverride = .auto ∧ g2.state = .occupied then quietCheck s g2 else g2 := rfl

theorem quietCheck_kept (s : State) (g : Group) :
    (quietCheck s g).members = g.members ∧ (quietCheck s g).effOverride = g.effOverride := by
  unfold quietCheck
  split
  · exact ⟨rfl, rfl⟩
  · (repeat' split) <;> simp

/-- R111: a tick keeps the members and the effective override of step 1. -/
theorem tickGroup_kept (s : State) (g : Group) :
    (tickGroup s g).members = g.members ∧ (tickGroup s g).effOverride = effectiveOverride s g.members := by
  have h : ∀ x : Group, (∃ st, x = enterGroup s st (overriddenGroup s g)) ∨ x = overriddenGroup s g →
      x.members = g.members ∧ x.effOverride = effectiveOverride s g.members := by
    rintro x (⟨st, rfl⟩ | rfl) <;> simp [overriddenGroup, refreshOverride]
  have hq : ∀ x : Group, x.members = g.members ∧ x.effOverride = effectiveOverride s g.members →
      (if x.effOverride = .auto ∧ x.state = .occupied then quietCheck s x else x).members = g.members ∧
      (if x.effOverride = .auto ∧ x.state = .occupied then quietCheck s x else x).effOverride =
        effectiveOverride s g.members := by
    intro x hx
    split
    · exact ⟨(quietCheck_kept s x).1.trans hx.1, (quietCheck_kept s x).2.trans hx.2⟩
    · exact hx
  rw [tickGroup_eq]
  refine hq _ (h _ ?_)
  split
  · exact .inl ⟨_, rfl⟩
  · split
    · exact .inl ⟨_, rfl⟩
    · exact .inr rfl

/-- R104, R106, R103: of a group that no expiry of step 2 or 3 takes, and that is not to be checked, a tick leaves step 1. -/
theorem tickGroup_of_none {s : State} {g : Group} (hh : holdoverReached s (overriddenGroup s g) = false)
    (hn : noShowReached s (overriddenGroup s g) = false) (ho : (overriddenGroup s g).state ≠ .occupied) :
    tickGroup s g = overriddenGroup s g := by
  rw [tickGroup_eq]
  simp [hh, hn, ho]

/-- R104: the holdover expiry. -/
theorem tickGroup_of_holdover {s : State} {g : Group} (hh : holdoverReached s (overriddenGroup s g) = true) :
    tickGroup s g = enterGroup s (afterHoldover (overriddenGroup s g)) (overriddenGroup s g) := by
  have ho : afterHoldover (overriddenGroup s g) ≠ .occupied := by
    unfold afterHoldover; (repeat' split) <;> decide
  rw [tickGroup_eq]
  simp [hh, ho]

/-- R106: the no-show expiry. -/
theorem tickGroup_of_noShow {s : State} {g : Group} (hh : holdoverReached s (overriddenGroup s g) = false)
    (hn : noShowReached s (overriddenGroup s g) = true) :
    tickGroup s g = enterGroup s .noShow (overriddenGroup s g) := by
  rw [tickGroup_eq]
  simp [hh, hn]

/-- R103: the quiet-time check. -/
theorem tickGroup_of_quiet {s : State} {g : Group} (hs : (overriddenGroup s g).state = .occupied)
    (he : (overriddenGroup s g).effOverride = .auto) : tickGroup s g = quietCheck s (overriddenGroup s g) := by
  rw [tickGroup_eq]
  simp [holdoverReached, noShowReached, hs, he]

/-- R103: of a group whose quiet time has run out, the check makes it enter HOLDOVER. -/
theorem quietCheck_holdover {s : State} {g : Group} {d : Nat} (hl : g.lastPresence = some d)
    (hc : (seatSum s g.members).getD 0 = 0) (hx : examHolds s g = false) (hq : d + quietTimeOf s g ≤ s.elapsed) :
    quietCheck s g = enterGroup s .holdover g := by
  simp [quietCheck, hl, hc, hx, hq]

/-! ### A group that no override forces -/

/-- R108: with no expiry reached a tick leaves the overrides. -/
theorem tickStart_overrides {g : Group} {s : State} (h : overrideReached s g = false) :
    (tickStart g s).overrides = s.overrides := by
  refine Vector.ext fun i hi => ?_
  have hr : ¬((⟨i, hi⟩ : Zone) ∈ g.members ∧ reached s.overrides[i].expiry s.elapsed = true) := by
    rintro ⟨hm, hr⟩
    have := List.any_eq_false.mp h ⟨i, hi⟩ hm
    exact this hr
  exact (tickStart_override g s ⟨i, hi⟩).trans (if_neg hr)

/-- R67: of a group that is AUTO and stays so, step 1 of a tick leaves all but the expiry that belongs to its override. -/
theorem overriddenGroup_of_auto {g : Group} {s : State} (hr : overrideReached s g = false) (he : g.effOverride = .auto)
    (ha : effectiveOverride s g.members = .auto) : overriddenGroup (tickStart g s) g =
      { g with effOverride := .auto, overrideExpiry := effectiveExpiry (tickStart g s) g.members } := by
  have h1 : effectiveOverride (tickStart g s) g.members = .auto := (effectiveOverride_congr (tickStart_overrides hr) _).trans ha
  unfold overriddenGroup
  rw [applyOverride_self (by rw [he]; exact h1), refreshOverride, h1]

/-- R104: what a group holds when it has left HOLDOVER. -/
theorem enterGroup_afterHoldover (s : State) (g : Group) : let h := enterGroup s (afterHoldover g) g
    h.holdoverDeadline = none ∧ h.headCount = 0 ∧ h.attended = g.attended ∧ h.noShowDeadline =
      if g.booked && !g.attended then some (s.elapsed + s.params.noShowLimit) else none := by
  cases hb : g.booked <;> cases hu : g.hasUpcoming <;> cases ha : g.attended <;> simp [afterHoldover, enterGroup, hb, hu, ha]

/-- R110: a group released from being forced occupied is in HOLDOVER with a deadline to come. -/
theorem tickGroup_of_released_occupied {s : State} {g : Group} (hg : g.effOverride = .forceOccupied)
    (ha : effectiveOverride s g.members = .auto) (hb : 0 < s.params.holdoverBooked) (hu : 0 < s.params.holdoverUnbooked) :
    (tickGroup s g).state = .holdover := by
  have hstep : overriddenGroup s g = enterGroup s .holdover (refreshOverride s g) := by
    simp [overriddenGroup, applyOverride, refreshOverride, ha, hg]
  have hh : holdoverReached s (overriddenGroup s g) = false := by
    rw [hstep]
    simp only [holdoverReached, enterGroup, reached, Bool.and_eq_false_imp, decide_eq_false_iff_not, not_le]
    intro _
    split <;> omega
  rw [tickGroup_of_none hh (by rw [hstep]; simp [noShowReached]) (by rw [hstep]; simp), hstep, enterGroup_state]

/-- R110: a group released from being forced vacant takes its booking view, with a no-show deadline to come. -/
theorem tickGroup_of_released_vacant {s : State} {g : Group} (hg : g.effOverride = .forceVacant)
    (ha : effectiveOverride s g.members = .auto) (hl : 0 < s.params.noShowLimit) :
    (g.booked = true → (tickGroup s g).state = .expected) ∧
      (g.booked = false → g.hasUpcoming = true → (tickGroup s g).state = .prepare) := by
  have hr : (refreshOverride s g).booked = g.booked ∧ (refreshOverride s g).hasUpcoming = g.hasUpcoming := ⟨rfl, rfl⟩
  have he : (refreshOverride s g).effOverride = .auto := ha
  refine ⟨fun hb => ?_, fun hb hu => ?_⟩
  · have hstep : overriddenGroup s g = enterGroup s .expected (refreshOverride s g) := by
      simp [overriddenGroup, applyOverride, hr, hb, he, hg]
    have hn : noShowReached s (overriddenGroup s g) = false := by
      rw [hstep]
      cases hat : (refreshOverride s g).attended <;> simp [noShowReached, enterGroup, reached, hat]
      omega
    rw [tickGroup_of_none (by rw [hstep]; simp [holdoverReached]) hn (by rw [hstep]; simp), hstep, enterGroup_state]
  · have hstep : overriddenGroup s g = enterGroup s .prepare (refreshOverride s g) := by
      simp [overriddenGroup, applyOverride, hr, hb, hu, he, hg]
    rw [tickGroup_of_none (by rw [hstep]; simp [holdoverReached]) (by rw [hstep]; simp [noShowReached]) (by rw [hstep]; simp),
      hstep, enterGroup_state]

end Sys2Proof.Machine

open Sys2Proof Sys2Proof.Machine

/-- Settles O40: each expiry takes the tick of its group (exec_expiry_ticks), and the steps of the tick give its record. -/
theorem groupExpiriesActAtTheTick : Obligations.GroupExpiriesActAtTheTick := by
  refine ⟨fun z l g s hg hd he ha hr => ⟨fun d hs hdl hle => ?_, fun d hs hdl hle => ?_, fun d hs hlp hc hx hq => ?_⟩,
    fun z l y g d s hg hd hy hex hle hp1 hp2 hp3 => ?_⟩
  · obtain ⟨t, ht, hk⟩ := exec_expiry_ticks (c := .holdoverExpiry z) rfl hg hd
      (by simp [holdoverReached, he, hs, hdl, reached, hle])
    have hstep := overriddenGroup_of_auto hr he ha
    have hreach : holdoverReached (tickStart g s) (overriddenGroup (tickStart g s) g) = true := by
      rw [hstep]
      simp [holdoverReached, hs, hdl, reached, hle]
    obtain ⟨h, hh, hb⟩ := exists_of_map_bare hk.record
    rw [tickGroup_of_holdover hreach, hstep] at hb
    obtain ⟨h1, h2, h3, h4⟩ := enterGroup_afterHoldover (tickStart g s)
      { g with effOverride := .auto, overrideExpiry := effectiveExpiry (tickStart g s) g.members }
    exact ⟨t, h, ht, hk.frame, hh, (congrArg Group.members hb).trans (enterGroup_members ..),
      (congrArg Group.state hb).trans (enterGroup_state ..), (congrArg Group.holdoverDeadline hb).trans h1,
      (congrArg Group.headCount hb).trans h2, (congrArg Group.attended hb).trans h3,
      (congrArg Group.noShowDeadline hb).trans h4, hk.marks⟩
  · obtain ⟨t, ht, hk⟩ := exec_expiry_ticks (c := .noShowExpiry z) rfl hg hd
      (by simp [noShowReached, he, hs, hdl, reached, hle])
    have hstep := overriddenGroup_of_auto hr he ha
    have htick : tickGroup (tickStart g s) g = enterGroup (tickStart g s) .noShow
        { g with effOverride := .auto, overrideExpiry := effectiveExpiry (tickStart g s) g.members } := by
      rw [tickGroup_of_noShow (by rw [hstep]; simp [holdoverReached, hs])
        (by rw [hstep]; simp [noShowReached, hs, hdl, reached, hle]), hstep]
    obtain ⟨h, hh, hb⟩ := exists_of_map_bare hk.record
    obtain ⟨hf, hdet⟩ := hk.noShow (by rw [htick]; rfl) (by rw [hs]; decide)
    rw [htick] at hb hdet
    exact ⟨t, h, ht, hk.frame, hh, (congrArg Group.members hb :), congrArg Group.state hb,
      congrArg Group.noShowDeadline hb, congrArg Group.headCount hb, (congrArg Group.pendingSince hb :), hf, hdet, hk.marks⟩
  · have hquiet : quietReached (clearPins s) g = true := by
      have := quietCheck_holdover (s := clearPins s) hlp hc hx hq
      simp [quietReached, he, hs, this]
    obtain ⟨t, ht, hk⟩ := exec_expiry_ticks (c := .quietTimeExpiry z) (expires := quietTaken) rfl hg hd
      (by simp [quietTaken, hquiet])
    have hstep := overriddenGroup_of_auto hr he ha
    have htick : tickGroup (tickStart g s) g = enterGroup (tickStart g s) .holdover
        { g with effOverride := .auto, overrideExpiry := effectiveExpiry (tickStart g s) g.members } := by
      rw [tickGroup_of_quiet (by rw [hstep]; exact hs) (by rw [hstep]), hstep]
      exact quietCheck_holdover hlp hc hx hq
    obtain ⟨h, hh, hb⟩ := exists_of_map_bare hk.record
    rw [htick] at hb
    exact ⟨t, h, ht, hk.frame, hh, (congrArg Group.members hb :), congrArg Group.state hb,
      (congrArg Group.headCount hb :), congrArg Group.pendingSince hb, congrArg Group.noShowDeadline hb, congrArg Group.holdoverDeadline hb, hk.marks⟩
  · have hreach : reached s.overrides[y].expiry s.elapsed = true := by
      rw [hex]
      exact decide_eq_true hle
    obtain ⟨t, ht, hk⟩ := exec_expiry_ticks (c := .overrideExpiry z) (expires := overrideReached) rfl hg hd
      (List.any_eq_true.mpr ⟨y, hy, hreach⟩)
    have hov : ∀ x : Zone, t.overrides[x] = if x ∈ g.members ∧ reached s.overrides[x].expiry s.elapsed = true
        then ⟨.auto, none⟩ else s.overrides[x] := fun x => by
      rw [hk.overrides]
      exact tickStart_override g s x
    obtain ⟨h, hh, hb⟩ := exists_of_map_bare hk.record
    obtain ⟨hmem, heff⟩ := tickGroup_kept (tickStart g s) g
    have heff' : h.effOverride = effectiveOverride (tickStart g s) g.members := (congrArg Group.effOverride hb).trans heff
    refine ⟨t, h, ht, hk.frame, (hov y).trans (if_pos ⟨hy, hreach⟩), fun x hx => (hov x).trans (if_neg ?_), hh,
      (congrArg Group.members hb).trans hmem, heff'.trans (effectiveOverride_congr hk.overrides _).symm,
      fun hf ha => ?_, fun hf ha => ?_⟩
    · rintro ⟨hm, hr⟩
      rcases hx with hx | hx
      · exact hx hm
      · rw [hr] at hx
        cases hx
    · exact (congrArg Group.state hb).trans (tickGroup_of_released_occupied hf (heff'.symm.trans ha) hp1 hp2)
    · obtain ⟨h1, h2⟩ := tickGroup_of_released_vacant hf (heff'.symm.trans ha) hp3
      exact ⟨fun hbk => (congrArg Group.state hb).trans (h1 hbk), fun hbk hu => (congrArg Group.state hb).trans (h2 hbk hu)⟩
end


section
/-! SUPPORT. The arrival at a partition's entry (R44, R48, R53, R54, R59, R65): it sets the partition's value and feeds no aggregate,
so that nothing but the partition change event follows. -/

namespace Sys2Proof.Machine

/-! ### What the aggregates rest on (R52, R53) -/

/-- R52: a role's contributions rest on the zones and on the entries of that role. -/
theorem contributions_congr {s t : State} {r : Role} {h : PointEntry → PointEntry} (hz : t.zones = s.zones)
    (hp : t.points = s.points.map h)
    (hr : ∀ e ∈ s.points, h e = e ∨ e.role ≠ some r ∧ (h e).role ≠ some r) (z : Zone) :
    contributions t r z = contributions s r z := by
  have hpr : present t = present s := funext fun z => by simp [present, hz]
  have ha : areaOf t = areaOf s := funext fun _ => by simp [areaOf, hz]
  have hc : ∀ e, entryContribution t e z = entryContribution s e z := fun e => by
    simp only [entryContribution, shareOf, hpr, ha]
  unfold contributions
  rw [hpr, hp, List.flatMap_map]
  refine if_congr Iff.rfl (List.flatMap_congr fun e he => ?_) rfl
  rcases hr e he with h1 | ⟨h1, h2⟩
  · rw [h1, hc]
  · rw [if_neg (fun h => h2 h.1), if_neg (fun h => h1 h.1)]

/-- Two states with the same present zones whose entries differ in partition entries only. -/
structure SameAggregates (s t : State) : Prop where
  windows : ∀ z, windowOpen t z = windowOpen s z
  projectors : ∀ z, projectorOn t z = projectorOn s z
  seats : ∀ z, seatCount t z = seatCount s z

/-- R52, R53: entries of role PARTITION feed no aggregate. -/
theorem sameAggregates_of {s t : State} {h : PointEntry → PointEntry} (hz : t.zones = s.zones)
    (hp : t.points = s.points.map h)
    (hr : ∀ e ∈ s.points, h e = e ∨ e.role = some .partition ∧ (h e).role = some .partition) : SameAggregates s t := by
  have hc : ∀ r, r ≠ .partition → ∀ z, contributions t r z = contributions s r z := fun r hne =>
    contributions_congr hz hp fun e he => (hr e he).imp id fun ⟨h1, h2⟩ => by simp [h1, h2, hne.symm]
  exact ⟨fun z => by rw [windowOpen, hc _ (by decide), windowOpen],
    fun z => by rw [projectorOn, hc _ (by decide), projectorOn],
    fun z => by rw [seatCount, hc _ (by decide), seatCount]⟩

theorem SameAggregates.trans {s t u : State} (a : SameAggregates s t) (b : SameAggregates t u) : SameAggregates s u :=
  ⟨fun z => (b.windows z).trans (a.windows z), fun z => (b.projectors z).trans (a.projectors z),
    fun z => (b.seats z).trans (a.seats z)⟩

theorem SameAggregates.symm {s t : State} (a : SameAggregates s t) : SameAggregates t s :=
  ⟨fun z => (a.windows z).symm, fun z => (a.projectors z).symm, fun z => (a.seats z).symm⟩

/-- The aggregates rest on nothing but zones and points. -/
theorem sameAggregates_of_eq {s t : State} (hz : t.zones = s.zones) (hp : t.points = s.points) : SameAggregates s t :=
  sameAggregates_of (h := id) hz (by rw [hp, List.map_id]) fun _ _ => .inl rfl

/-! ### What follows an arrival that feeds no aggregate -/

/-- R67: the presentation flags stay where they say what the projectors do. -/
theorem refreshPresentations_fixed {s : State} (h : PresentationSound s) : refreshPresentations s = s := by
  refine foldl_fixed fun l _ => ?_
  unfold refreshPresentation
  split
  · rename_i g hg
    exact if_pos (h l g hg).symm
  · rfl

theorem syncWindows_fixed {before s : State} (h : SameAggregates before s) : syncWindows before s = s := by
  have he : (forZones fun z => if windowOpen s z = windowOpen before z then s.evidence[z] else
      { s.evidence[z] with windowOpenedAt := if windowOpen s z then some s.elapsed else none }) = s.evidence :=
    Vector.ext fun i hi => (forZones_get _ ⟨i, hi⟩).trans (if_pos (h.windows ⟨i, hi⟩))
  unfold syncWindows
  rw [he]

theorem recordPresence_nil (s : State) : recordPresence [] [] s = s := by
  have he : (forZones fun z => if ([] : List Zone).contains z then
      { s.evidence[z] with lastPresence := some s.elapsed, pendingTime := none }
    else if ([] : List Zone).contains z then
      { s.evidence[z] with
        lastPresence := some s.elapsed
        pendingTime := weakPending s.evidence[z].pendingTime s.params.confirmWindow s.elapsed }
    else s.evidence[z]) = s.evidence :=
    Vector.ext fun i hi => (forZones_get _ ⟨i, hi⟩).trans (by simp)
  unfold recordPresence
  rw [he]

theorem windowChanges_fixed {before s : State} (h : SameAggregates before s) : windowChanges before s = s := by
  have hf : (allZones.filter fun z => windowOpen s z != windowOpen before z) = [] :=
    List.filter_eq_nil_iff.mpr fun z _ => by simp [h.windows z]
  unfold windowChanges
  rw [hf]
  rfl

/-! ### The arrival at a partition's entry (R54, R59) -/

/-- R48, R54: the state in which the partition change event of an arrival takes place. -/
def withPartition (e : PointEntry) (k : Fin 3) (b : List Byte) (s : State) : State :=
  { updatePoint e.code (fun x => x.arrive .partition b s.elapsed) s with
    partitions := s.partitions.set k (some (decide (u8 b 0 ≠ 0))) }

theorem setHeldValue_partition {e : PointEntry} {k : Fin 3} (h : e.attachment = .partition k) (b : List Byte) (s : State) :
    setHeldValue e .partition b (updatePoint e.code (fun x => x.arrive .partition b s.elapsed) s) = withPartition e k b s := by
  have hn : ((if u8 b 0 = 0 then 0 else 1) == 1) = decide (u8 b 0 ≠ 0) := by split <;> simp [*]
  unfold setHeldValue
  rw [h]
  simp only [decodeValue, hn]
  rfl

/-- R48, R54, R59: at a partition's entry an arrival does nothing besides but the partition change event. -/
theorem pointArrival_partition {e : PointEntry} {k : Fin 3} (hk : e.attachment = .partition k) {s : State}
    (hr : ∀ x ∈ s.points, x.code = e.code → x.role = some .partition) (hs : PresentationSound s) (b : List Byte) :
    pointArrival e .partition b s = partitionChange k (partitionOpen s k) (withPartition e k b s) := by
  have ha : SameAggregates s (withPartition e k b s) := by
    refine sameAggregates_of rfl rfl fun x hx => ?_
    split
    · rename_i hc
      refine .inr ⟨hr x hx hc, ?_⟩
      have hf := congrArg PointEntry.role (x.fresh_arrive .partition b s.elapsed)
      exact hf.trans (hr x hx hc)
    · exact .inl rfl
  have hps : PresentationSound (withPartition e k b s) := fun l g hg => (hs l g hg).trans (by simp only [ha.projectors])
  have hd : (decodeValue .partition e.rangeMap b).delivery = .nothing := rfl
  unfold pointArrival
  rw [setHeldValue_partition hk]
  generalize withPartition e k b s = x at ha hps
  have hre : reachedZones x e.attachment b = [] := by rw [hk]; rfl
  have hz : allZones.foldl (zoneEvents s [] [] [] .nothing) x = x :=
    foldl_fixed fun z _ => by simp [zoneEvents, ha.seats z]
  have hy : SameAggregates s (partitionChange k (partitionOpen s k) x) := by
    have hw := partitionChange_roomWork k (partitionOpen s k) x
    exact ha.trans (sameAggregates_of_eq (by rw [hw.frame]) (by rw [hw.frame]))
  show windowChanges s (otherEvents .partition (decodeValue .partition e.rangeMap b).delivery
    (partitionEvents s e.attachment (allZones.foldl
      (zoneEvents s [] [] (reachedZones x e.attachment b) (decodeValue .partition e.rangeMap b).delivery)
      (refreshPresentations (recordPresence [] [] (syncWindows s x)))))) = _
  rw [hd, hre, syncWindows_fixed ha, recordPresence_nil, refreshPresentations_fixed hps, hz, hk]
  exact windowChanges_fixed hy

/-! ### The command of a consumed frame -/

/-- R31, R33, R34: a consumed frame's command ends in the arrival at its entry. -/
theorem exec_consumed {p : Port} {bytes : List Byte} {f : Frame} {e : PointEntry} {r : Role} {s : State}
    (h : Consumes p bytes f e r s) : exec (.frameArrival p bytes (s.port p).cuts) s =
      .next (settle (pointArrival e r f.value (recorded e f (beforeConsumption p e f (arrivedAt p f s))))) := by
  obtain ⟨hrec, hl, hd, hr, hfit, hq, hcmd⟩ := h
  have hff : fits e f = true := by
    unfold fits
    rw [hr]
    exact hfit
  have hport : ∀ q, (arrivedAt p f s).port q = s.port q := fun q => arrivedAt_port p q f s
  have hcl : classify p f (arrivedAt p f s) =
      consume e f (recorded e f (beforeConsumption p e f (arrivedAt p f s))) := by
    rw [classify_listed (listed_arrivedAt hl)]
    by_cases hk : f.kind = .command
    · obtain ⟨hnew, hroom⟩ := hcmd hk
      rw [listedFrame_command hd hk hff, if_neg, consumeCommand_new hk hnew]
      rintro ⟨⟨hcopy, hhop, hup⟩, ha⟩
      rw [hport] at hup
      exact hroom ⟨hcopy, hhop, hup, by simpa only [admits, hport] using ha⟩
    · rw [listedFrame_unconfirmed hd hq hk hff, recorded, if_neg hk]
  have hgood := frameArrives_good (s := clearPins s) ⟨by simpa [receiving_clearPins] using hrec.1, hrec.2⟩
  rw [clearPins_port] at hgood
  refine (event_eq (frameArrives p bytes (s.port p).cuts) s).trans ?_
  rw [hgood]
  refine congrArg (fun u => Host.Outcome.next (settle u)) (Eq.trans hcl ?_)
  unfold consume
  rw [hr]

/-- What stands of a state when a frame is consumed: all that the room's logic reads but the points, whose entries are as they
were apart from the last command of the frame's own. -/
def LinesFrame (s t : State) : Prop :=
  t = { s with
    room := t.room
    trunk := t.trunk
    pins := t.pins
    points := t.points
    partitions := t.partitions
    notices := t.notices
    hold := t.hold
    matchUnits := t.matchUnits
    captures := t.captures
    overflow := t.overflow }

theorem LinesFrame.trans {s t u : State} (a : LinesFrame s t) (b : LinesFrame t u) : LinesFrame s u := by
  unfold LinesFrame at *
  rw [b, a]

theorem withPort_linesFrame (s : State) (p : Port) (q : LinePort) : LinesFrame s (s.withPort p q) := by cases p <;> rfl

theorem answer_linesFrame (p : Port) (a : Option Answer) (s : State) : LinesFrame s (answer p a s) := by cases p <;> rfl

theorem beforeConsumption_linesFrame (p : Port) (e : PointEntry) (f : Frame) (s : State) :
    LinesFrame s (beforeConsumption p e f s) ∧ (beforeConsumption p e f s).notices = s.notices ∧
      (beforeConsumption p e f s).partitions = s.partitions := by
  unfold beforeConsumption relayedAcross
  dsimp only
  split
  · split
    · exact ⟨rfl, rfl, rfl⟩
    · split
      · split
        · exact ⟨(withPort_linesFrame ..).trans (answer_linesFrame ..), by simp, by simp⟩
        · exact ⟨withPort_linesFrame .., by simp, by simp⟩
      · split
        · exact ⟨answer_linesFrame .., by simp, by simp⟩
        · exact ⟨withPort_linesFrame .., by simp, by simp⟩
  · split
    · exact ⟨answer_linesFrame .., by simp, by simp⟩
    · exact ⟨rfl, rfl, rfl⟩

end Sys2Proof.Machine
end


section
/-! SUPPORT. The command of a partition's arrival, and the groups on either side of a partition (R54, R59, R65, R66). -/

namespace Sys2Proof.Machine

/-! ### The command -/

theorem recorded_linesFrame (e : PointEntry) (f : Frame) (s : State) :
    LinesFrame s (recorded e f s) ∧ (recorded e f s).notices = s.notices ∧ (recorded e f s).partitions = s.partitions := by
  unfold recorded
  split <;> exact ⟨rfl, rfl, rfl⟩

/-- R31: a last command is all that a consumption has recorded of the points. -/
theorem recorded_points (e : PointEntry) (f : Frame) (s : State) : ∃ h : PointEntry → PointEntry,
    (recorded e f s).points = s.points.map h ∧ ∀ x, h x = x ∨ x.code = e.code ∧ (h x).code = x.code ∧ (h x).role = x.role := by
  unfold recorded
  split
  · refine ⟨_, rfl, fun x => ?_⟩
    dsimp only
    split
    · rename_i hc
      exact .inr ⟨hc, rfl, rfl⟩
    · exact .inl rfl
  · exact ⟨id, (List.map_id _).symm, fun _ => .inl rfl⟩

theorem arrivedAt_linesFrame (p : Port) (f : Frame) (s : State) :
    LinesFrame s (arrivedAt p f s) ∧ (arrivedAt p f s).partitions = s.partitions ∧
      (arrivedAt p f s).notice .partitionMismatch = s.notice .partitionMismatch := by
  have h := arrivedAt_shown p f s
  refine ⟨?_, by rw [h]; rfl, showFrame_notice false p f (clearPins s) (by decide) (by decide)⟩
  unfold ShownFrame at h
  unfold LinesFrame
  rw [h]
  rfl

/-- R21: the entry of a code is the only one. -/
theorem eq_of_listed {p : Port} {f : Frame} {e x : PointEntry} {s : State} (hs : PointsSound s) (hl : Listed p f e s)
    (hx : x ∈ s.points) (hc : x.code = e.code) : x = e := by
  obtain ⟨-, -, hfind, -⟩ := hl
  have he : e.code = f.target := by simpa using List.find?_some hfind
  have hxf := findPoint_of_mem hs hx
  rw [hc, he, hfind] at hxf
  exact (Option.some.inj hxf).symm

/-- R54, R59: a consumed frame at a partition's entry ends in the partition change event of a state with the new value. -/
theorem exec_partitionArrival {p : Port} {bytes : List Byte} {f : Frame} {e : PointEntry} {k : Fin 3} {s : State}
    (h : Consumes p bytes f e .partition s) (hk : e.attachment = .partition k) (hs : PresentationSound s)
    (hp : PointsSound s) : ∃ x, exec (.frameArrival p bytes (s.port p).cuts) s =
        .next (settle (partitionChange k (partitionOpen s k) x)) ∧ LinesFrame s x ∧
      x.partitions = s.partitions.set k (some (decide (u8 f.value 0 ≠ 0))) ∧
      x.notice .partitionMismatch = s.notice .partitionMismatch := by
  have hrole : ∀ x ∈ s.points, x.code = e.code → x.role = some .partition := fun x hx hc => by
    obtain ⟨-, hl, -, hr, -⟩ := h
    rw [eq_of_listed hp hl hx hc, hr]
  obtain ⟨fa, pa, na⟩ := arrivedAt_linesFrame p f s
  obtain ⟨fb, nb, pb⟩ := beforeConsumption_linesFrame p e f (arrivedAt p f s)
  obtain ⟨fc, nc, pc⟩ := recorded_linesFrame e f (beforeConsumption p e f (arrivedAt p f s))
  obtain ⟨m, hm, hmx⟩ := recorded_points e f (beforeConsumption p e f (arrivedAt p f s))
  rw [(beforeConsumption_points ..).1, arrivedAt_points] at hm
  have hx := exec_consumed h
  generalize recorded e f (beforeConsumption p e f (arrivedAt p f s)) = v at hm hx fc nc pc
  have hf : LinesFrame s v := (fa.trans fb).trans fc
  have hag : SameAggregates s v := sameAggregates_of (by rw [hf]) hm fun y hy => (hmx y).imp id
    fun ⟨h1, _, h3⟩ => ⟨hrole y hy h1, h3.trans (hrole y hy h1)⟩
  have hvr : ∀ x ∈ v.points, x.code = e.code → x.role = some .partition := fun x hx hc => by
    rw [hm] at hx
    obtain ⟨y, hy, rfl⟩ := List.mem_map.mp hx
    rcases hmx y with h1 | ⟨h1, -, h3⟩
    · rw [h1] at hc ⊢
      exact hrole y hy hc
    · exact h3.trans (hrole y hy h1)
  have hvs : PresentationSound v := fun l g hg => by
    have hgs : g ∈ s.groups[l] := by rw [hf] at hg; exact hg
    exact (hs l g hgs).trans (by simp only [hag.projectors])
  have hpv : v.partitions = s.partitions := pc.trans (pb.trans pa)
  have hopen : partitionOpen v k = partitionOpen s k := by unfold partitionOpen; rw [hpv, hf]
  refine ⟨withPartition e k f.value v, ?_, hf.trans rfl, ?_, ?_⟩
  · rw [hx, pointArrival_partition hk hvr hvs, hopen]
  · show v.partitions.set k _ = _
    rw [hpv]
  · show v.notice .partitionMismatch = _
    rw [← na]
    simp only [State.notice, nc, nb]

/-! ### The groups on either side of a partition (R66) -/

/-- R66: the runs that presence and joints form. -/
def runsOf (pres join : Zone → Bool) : List (List Zone) :=
  allZones.foldl (fun runs z =>
    if !pres z then runs
    else if join z then
      match runs.reverse with
      | last :: before => before.reverse ++ [last ++ [z]]
      | [] => [[z]]
    else runs ++ [[z]]) []

theorem groupRuns_eq (s : State) : groupRuns s = runsOf (present s) (joinedBelow s) := rfl

/-- R66: a run holds the zone below a partition between present zones only with the one above where they are joined, and then
is not led by the one above; else without it. -/
theorem runsOf_parts : ∀ p0 p1 p2 p3 j0 j1 j2 j3 : Bool, ∀ k : Fin 3, ![p0, p1, p2, p3] k.castSucc = true →
    ![p0, p1, p2, p3] k.succ = true → ∀ run ∈ runsOf ![p0, p1, p2, p3] ![j0, j1, j2, j3], k.castSucc ∈ run →
      if ![j0, j1, j2, j3] k.succ then k.succ ∈ run ∧ run.head? ≠ some k.succ else k.succ ∉ run := by
  decide +kernel

theorem joinedBelow_succ (s : State) (k : Fin 3) : joinedBelow s k.succ = partitionOpen s k := by
  match k with
  | 0 => rfl
  | 1 => rfl
  | 2 => rfl

/-- R66: the members of a sound group are a run under its leader. -/
theorem GroupsSound.run {s : State} (h : GroupsSound s) {z l : Zone} {g : Group} (hg : groupOf s z = some (l, g)) :
    g.members ∈ groupRuns s ∧ g.members.head? = some l ∧ z ∈ g.members := by
  obtain ⟨hl, hz⟩ := groupOf_some hg
  have hm := h l
  rw [hl] at hm
  have hf : (groupRuns s).find? (fun run => run.head? == some l) = some g.members := hm.symm
  exact ⟨List.mem_of_find?_eq_some hf, by simpa using List.find?_some hf, hz⟩

/-- R65, R66: the group below a partition between present zones holds the zone above it only where the partition is open. -/
theorem GroupsSound.across {s : State} (h : GroupsSound s) {k : Fin 3} {l : Zone} {g : Group}
    (hlo : present s k.castSucc = true) (hhi : present s k.succ = true) (hg : groupOf s k.castSucc = some (l, g)) :
    if partitionOpen s k then k.succ ∈ g.members ∧ l ≠ k.succ else k.succ ∉ g.members := by
  obtain ⟨hrun, hhead, hmem⟩ := h.run hg
  have hv : ∀ f : Zone → Bool, ![f 0, f 1, f 2, f 3] = f := fun f => by
    funext z
    match z with
    | 0 | 1 | 2 | 3 => rfl
  have hp := runsOf_parts (present s 0) (present s 1) (present s 2) (present s 3) (joinedBelow s 0) (joinedBelow s 1)
    (joinedBelow s 2) (joinedBelow s 3) k
  rw [hv, hv, ← groupRuns_eq] at hp
  have hk := hp hlo hhi g.members hrun hmem
  rw [joinedBelow_succ, hhead] at hk
  simpa using hk

end Sys2Proof.Machine
end


section
/-! SUPPORT. What stays when a merge or a split has written its records (R65, R76, R97): the records but for manual scenes and marks,
the mismatch set and its notice, and all that decides them. -/

namespace Sys2Proof.Machine

/-! ### What stays -/

/-- What handing on, clearing pending times and the offers leave of a group change. -/
structure RecordsKept (s t : State) : Prop where
  frame : RoomFrame s t
  overrides : t.overrides = s.overrides
  views : t.views = s.views
  mismatch : t.mismatch = s.mismatch
  bare : ∀ y : Zone, t.groups[y].map Group.bare = s.groups[y].map Group.bare
  notice : (t.notice .partitionMismatch).flag = (s.notice .partitionMismatch).flag ∧
    (t.notice .partitionMismatch).detail = (s.notice .partitionMismatch).detail

theorem RecordsKept.refl (s : State) : RecordsKept s s := ⟨rfl, rfl, rfl, rfl, fun _ => rfl, rfl, rfl⟩

theorem RecordsKept.trans {s t u : State} (a : RecordsKept s t) (b : RecordsKept t u) : RecordsKept s u :=
  ⟨a.frame.trans b.frame, b.overrides.trans a.overrides, b.views.trans a.views, b.mismatch.trans a.mismatch,
    fun y => (b.bare y).trans (a.bare y), b.notice.1.trans a.notice.1, b.notice.2.trans a.notice.2⟩

theorem HandedOn.recordsKept {l : Zone} {s t : State} (h : HandedOn l s t) : RecordsKept s t := by
  have hn : t.notice .partitionMismatch = s.notice .partitionMismatch := h.units.notices _ (by decide)
  have hb := h.bare
  obtain ⟨hf, -⟩ := h.units
  refine ⟨?_, by rw [hf], by rw [hf], by rw [hf], hb, by rw [hn], by rw [hn]⟩
  unfold RoomFrame
  rw [hf]

theorem UnitWork.recordsKept {s t : State} (h : UnitWork s t) : RecordsKept s t := (h.handedOn 0).recordsKept

theorem Offered.recordsKept {s t : State} (h : Offered s t) : RecordsKept s t :=
  ⟨h.frame.roomFrame, by rw [h.frame], by rw [h.frame], by rw [h.frame], h.bare, h.notices _⟩

theorem clearPendingTimes_recordsKept (members : List Zone) (s : State) : RecordsKept s (clearPendingTimes members s) :=
  ⟨rfl, rfl, rfl, rfl, fun _ => rfl, rfl, rfl⟩

theorem RecordsKept.ite {c : Prop} [Decidable c] {s t : State} (h : RecordsKept s t) :
    RecordsKept s (if c then t else s) := by
  split <;> [exact h; exact .refl s]

/-! ### The mismatch set of the groups so formed (R97) -/

/-- R66: the leader of a zone's group rests on the members of the records. -/
theorem groupOf_leader_congr {s t : State} (h : ∀ y : Zone, t.groups[y].map Group.members = s.groups[y].map Group.members)
    (z : Zone) : (groupOf t z).map (·.1) = (groupOf s z).map (·.1) := by
  unfold groupOf
  rw [List.map_findSome?, List.map_findSome?]
  congr 1
  funext l
  have hl := h l
  simp only [Function.comp_apply]
  cases ht : t.groups[l] with
  | none =>
    rw [ht] at hl
    rw [Option.map_eq_none_iff.mp hl.symm]
  | some g =>
    rw [ht] at hl
    obtain ⟨x, hx, hm⟩ := Option.map_eq_some_iff.mp hl.symm
    rw [hx]
    simp only [hm]
    split <;> rfl

theorem RecordsKept.members {s t : State} (h : RecordsKept s t) (y : Zone) :
    t.groups[y].map Group.members = s.groups[y].map Group.members := by
  have hb := congrArg (Option.map Group.members) (h.bare y)
  rw [Option.map_map, Option.map_map] at hb
  exact hb

/-- R97: a mismatch set formed stays so. -/
theorem RecordsKept.mismatchAfter {old : List Nat} {before : Notice} {s t : State} (h : RecordsKept s t)
    (hm : MismatchAfter old before s) : MismatchAfter old before t := by
  have hlead := groupOf_leader_congr h.members
  have hf := h.frame
  have hz : t.zones = s.zones := by rw [hf]
  have hpage : t.activePage = s.activePage ∧ t.pageA = s.pageA ∧ t.pageB = s.pageB := by rw [hf]; exact ⟨rfl, rfl, rfl⟩
  obtain ⟨h1, h2, h3⟩ := hpage
  obtain ⟨hholds, honce, hraised, hkept⟩ := hm
  constructor
  · intro id
    rw [h.mismatch, hholds id]
    simp only [SpansGroups, hlead, present, hz, h.views, h1, h2, h3]
  · rw [h.mismatch]; exact honce
  · rw [h.mismatch, h.notice.1, h.notice.2]; exact hraised
  · rw [h.mismatch, h.notice.1, h.notice.2]; exact hkept

/-- R97: what a recomputation writes besides. -/
theorem recomputeMismatch_kept (s : State) : RoomFrame s (recomputeMismatch s) ∧
    (recomputeMismatch s).overrides = s.overrides ∧ (recomputeMismatch s).views = s.views ∧
    (recomputeMismatch s).groups = s.groups ∧ (recomputeMismatch s).evidence = s.evidence := by
  rcases recomputeMismatch_eq s with ⟨heq, -⟩ | ⟨id, -, -, n, heq⟩ <;> rw [heq]
  · exact ⟨rfl, rfl, rfl, rfl, rfl⟩
  · rw [raise_eq]
    exact ⟨rfl, rfl, rfl, rfl, rfl⟩

/-- R65, R76, R97: from a state `s`, what a merge or a split that writes the records `groups` leaves in `t`. -/
structure Regrouped (s : State) (groups : PerZone (Option Group)) (t : State) : Prop where
  frame : RoomFrame s t
  overrides : t.overrides = s.overrides
  views : t.views = s.views
  mismatch : MismatchAfter s.mismatch (s.notice .partitionMismatch) t
  bare : ∀ y : Zone, t.groups[y].map Group.bare = groups[y].map Group.bare

theorem regrouped_recomputeMismatch (s : State) (groups : PerZone (Option Group)) :
    Regrouped s groups (recomputeMismatch { s with groups := groups }) := by
  obtain ⟨hf, ho, hv, hg, -⟩ := recomputeMismatch_kept { s with groups := groups }
  have hw : RoomFrame s { s with groups := groups } := rfl
  exact ⟨hw.trans hf, ho, hv, recomputeMismatch_after { s with groups := groups }, fun y => by rw [hg]⟩

theorem Regrouped.then {s t u : State} {groups : PerZone (Option Group)} (h : Regrouped s groups t) (k : RecordsKept t u) :
    Regrouped s groups u :=
  ⟨h.frame.trans k.frame, k.overrides.trans h.overrides, k.views.trans h.views, k.mismatchAfter h.mismatch,
    fun y => (k.bare y).trans (h.bare y)⟩

/-! ### Head counts (R113) -/

theorem areaOf_eq (s : State) (z : Zone) : areaOf s z = (s.zones[z].map (·.area)).getD 0 := by
  unfold areaOf
  cases s.zones[z] <;> rfl

/-- R113: the head count estimate of an OCCUPIED group as the statements say it. -/
theorem occupiedCount_eq (s : State) (g : Group) : occupiedCount s g = estimateOf s g := by
  unfold occupiedCount estimateOf
  cases seatSum s g.members with
  | some n => rfl
  | none =>
    dsimp only
    split
    · rfl
    · refine congrArg (fun l : List Nat => min 400 l.sum) (List.map_congr_left fun z _ => ?_)
      cases s.zones[z] <;> rfl

/-- R113: the estimate rests on zones, points, members and booking fields. -/
theorem estimateOf_congr {s t : State} {g h : Group} (hz : t.zones = s.zones) (hp : t.points = s.points)
    (hm : h.members = g.members) (hb : h.booking = g.booking) : estimateOf t h = estimateOf s g := by
  have hs : seatCount t = seatCount s := funext (sameAggregates_of_eq hz hp).seats
  have hsum : seatSum t h.members = seatSum s g.members := by rw [seatSum, seatSum, hs, hm]
  have hbooked : h.booked = g.booked := by rw [Group.booked, Group.booked, hm, hb]
  rw [estimateOf, estimateOf, hsum, hbooked, hm, hb, hz]

end Sys2Proof.Machine
end


section
/-! SUPPORT. The merge at a partition (R69, R70, R71, R75, R76, R100, R115). -/

namespace Sys2Proof.Machine

/-! ### The merged record -/

theorem mergedBooking_cases (s : State) (g : Group) :
    g.state = .prepare ∧ g.booked = true ∧ mergedBooking s g = enterGroup s .expected g ∨
      ¬(g.state = .prepare ∧ g.booked = true) ∧ mergedBooking s g = g := by
  unfold mergedBooking
  split
  · rename_i h
    exact .inl ⟨h.1, h.2, rfl⟩
  · rename_i h
    exact .inr ⟨h, rfl⟩

theorem mergedBooking_kept (s : State) (g : Group) : (mergedBooking s g).members = g.members ∧
    (mergedBooking s g).booking = g.booking ∧ (mergedBooking s g).lastPresence = g.lastPresence ∧
    (mergedBooking s g).effOverride = g.effOverride ∧ (mergedBooking s g).manualScene = g.manualScene := by
  rcases mergedBooking_cases s g with ⟨-, -, h⟩ | ⟨-, h⟩ <;> rw [h] <;> simp

/-- R69, R75, R115: the merged record before its head count is formed. -/
def mergedEntered (s : State) (lo hi : Group) : Group :=
  mergedBooking s (applyOverride s (stateSource lo hi).effOverride (mergedForm s lo hi))

theorem mergedGroup_eq (s : State) (lo hi : Group) : mergedGroup s lo hi =
    { mergedEntered s lo hi with headCount := mergedCount s lo hi (mergedEntered s lo hi), reportPending := true } := rfl

/-- What a merged record takes of both groups in every case. -/
theorem mergedGroup_kept (s : State) (lo hi : Group) :
    (mergedGroup s lo hi).members = lo.members ++ hi.members ∧
      (mergedGroup s lo hi).booking = bookingFields s (lo.members ++ hi.members) ∧
      (mergedGroup s lo hi).lastPresence = laterOf lo.lastPresence hi.lastPresence ∧
      (mergedGroup s lo hi).effOverride = effectiveOverride s (lo.members ++ hi.members) ∧
      (mergedGroup s lo hi).manualScene = none := by
  obtain ⟨h1, h2, h3, h4, h5⟩ :=
    mergedBooking_kept s (applyOverride s (stateSource lo hi).effOverride (mergedForm s lo hi))
  exact ⟨h1.trans (applyOverride_members ..), h2.trans (applyOverride_booking ..), h3.trans (applyOverride_lastPresence ..),
    h4.trans (applyOverride_effOverride ..), h5.trans (applyOverride_manualScene ..)⟩

/-- R115: what the merged record holds after it has taken its booking view, where no override is applied. -/
theorem mergedBooking_form (s : State) (lo hi : Group) : let src := stateSource lo hi
    let g := mergedBooking s (mergedForm s lo hi)
    g.state = (if src.state = .prepare ∧ g.booked = true then .expected else src.state) ∧
    g.attended = (lo.attended || hi.attended) ∧
    g.pendingSince = (if g.state = .vacant ∨ g.state = .prepare ∨ g.state = .noShow then
      earlierOf lo.pendingSince hi.pendingSince else none) ∧
    g.holdoverDeadline = (if g.state = .holdover then laterOf lo.holdoverDeadline hi.holdoverDeadline else none) ∧
    g.noShowDeadline = (if g.state ≠ .expected ∨ g.attended = true then none
      else if src.state = .expected then laterOf lo.noShowDeadline hi.noShowDeadline
      else some (s.elapsed + s.params.noShowLimit)) := by
  have hs : (mergedForm s lo hi).state = (stateSource lo hi).state := rfl
  rcases mergedBooking_cases s (mergedForm s lo hi) with ⟨h1, h2, h⟩ | ⟨h1, h⟩
  · rw [hs] at h1
    have hb : (enterGroup s .expected (mergedForm s lo hi)).booked = true := h2
    rw [h]
    simp only [h1, hb, enterGroup_state]
    refine ⟨rfl, rfl, rfl, rfl, ?_⟩
    cases hat : lo.attended || hi.attended <;> simp [enterGroup, mergedForm, hat]
  · rw [h]
    rw [hs] at h1
    refine ⟨(if_neg h1).symm, rfl, ?_, rfl, ?_⟩
    · simp only [hs]
      cases hst : (stateSource lo hi).state <;> simp [mergedForm, Occupancy.usesPending, hst]
    · simp only [hs]
      cases hst : (stateSource lo hi).state <;> cases hat : lo.attended || hi.attended <;> simp [mergedForm, hst, hat]

/-- R69, R70, R71: where the override is the one the state was taken with, the merged record is the one its booking view gives. -/
theorem mergedEntered_same {s : State} {lo hi : Group}
    (h : effectiveOverride s (lo.members ++ hi.members) = (stateSource lo hi).effOverride) :
    mergedEntered s lo hi = mergedBooking s (mergedForm s lo hi) := by
  rw [mergedEntered, applyOverride_self h]

/-- R71: the merged head count by the state the merged group is in. -/
theorem mergedGroup_headCount (s : State) (lo hi : Group) : (mergedGroup s lo hi).headCount =
    if (mergedGroup s lo hi).state = .occupied then occupiedCount s (mergedGroup s lo hi)
    else if (mergedGroup s lo hi).state = .holdover then min 400 (lo.headCount + hi.headCount) else 0 := by
  rw [mergedGroup_eq]
  generalize mergedEntered s lo hi = g
  show mergedCount s lo hi g = if g.state = .occupied then occupiedCount s g
    else if g.state = .holdover then min 400 (lo.headCount + hi.headCount) else 0
  unfold mergedCount
  cases g.state <;> simp

/-- R75: the state of a merged group whose override is another than the one its state was taken with. -/
theorem mergedGroup_overridden {s : State} {lo hi : Group}
    (h : effectiveOverride s (lo.members ++ hi.members) ≠ (stateSource lo hi).effOverride) :
    (effectiveOverride s (lo.members ++ hi.members) = .forceOccupied → (mergedGroup s lo hi).state = .occupied) ∧
    (effectiveOverride s (lo.members ++ hi.members) = .forceVacant → (mergedGroup s lo hi).state = .vacant) ∧
    (effectiveOverride s (lo.members ++ hi.members) = .auto → (stateSource lo hi).effOverride = .forceOccupied →
      (mergedGroup s lo hi).state = .holdover) := by
  have hof : ∀ st, st ≠ .prepare → (applyOverride s (stateSource lo hi).effOverride (mergedForm s lo hi)).state = st →
      (mergedGroup s lo hi).state = st := fun st hst he => by
    rw [mergedGroup_eq, mergedEntered, mergedBooking, if_neg (by rw [he]; exact fun hc => hst hc.1)]
    exact he
  refine ⟨fun he => ?_, fun he => ?_, fun he hs => ?_⟩
  · exact hof _ (by decide) (applyOverride_forceOccupied he (he ▸ h.symm))
  · exact hof _ (by decide) (applyOverride_forceVacant he (he ▸ h.symm)).1
  · refine hof _ (by decide) ?_
    have hform : (mergedForm s lo hi).effOverride = .auto := he
    simp [applyOverride, hform, hs]

/-- R70, R100: the members' pending times become none where the state taken is OCCUPIED, HOLDOVER or EXPECTED. -/
theorem clearsPendingTimes_of {s : State} {lo hi g : Group} (h : (stateSource lo hi).state = .occupied ∨
    (stateSource lo hi).state = .holdover ∨ (stateSource lo hi).state = .expected) :
    clearsPendingTimes (mergedForm s lo hi) g = true := by
  have hs : (mergedForm s lo hi).state = (stateSource lo hi).state := rfl
  rcases h with h | h | h <;> simp [clearsPendingTimes, hs, h, Occupancy.usesPending]

/-! ### The merge -/

/-- R69, R71, R76: what a merge leaves: the merged record at the lower leader, none at the other, the rest as written. -/
theorem mergeAt_regrouped {k : Fin 3} {s : State} {l m : Zone} {lo hi : Group} (hl : groupOf s k.castSucc = some (l, lo))
    (hm : groupOf s k.succ = some (m, hi)) (hne : l ≠ m) :
    Regrouped s ((s.groups.set m none).set l (some (mergedGroup s lo hi))) (mergeAt k s) ∧
      (mergeAt k s).groups[l] = some (mergedGroup s lo hi) ∧ (mergeAt k s).groups[m] = none ∧
      (∀ y : Zone, y ≠ l → y ≠ m → (mergeAt k s).groups[y] = s.groups[y]) ∧
      (clearsPendingTimes (mergedForm s lo hi) (mergedGroup s lo hi) = true →
        ∀ y ∈ (mergedGroup s lo hi).members, (mergeAt k s).evidence[y].pendingTime = none) := by
  have heq : mergeAt k s = handGroupChange l (stateSource lo hi) (mergedGroup s lo hi) false true
      (if clearsPendingTimes (mergedForm s lo hi) (mergedGroup s lo hi) then
        clearPendingTimes (mergedGroup s lo hi).members
          (recomputeMismatch { s with groups := (s.groups.set m none).set l (some (mergedGroup s lo hi)) })
      else recomputeMismatch { s with groups := (s.groups.set m none).set l (some (mergedGroup s lo hi)) }) := by
    unfold mergeAt
    rw [hl, hm]
    exact if_neg hne
  have hr := regrouped_recomputeMismatch s ((s.groups.set m none).set l (some (mergedGroup s lo hi)))
  have hg : (recomputeMismatch { s with groups := (s.groups.set m none).set l (some (mergedGroup s lo hi)) }).groups =
      (s.groups.set m none).set l (some (mergedGroup s lo hi)) := (recomputeMismatch_kept _).2.2.2.1
  obtain ⟨-, -, -, -, hscene⟩ := mergedGroup_kept s lo hi
  generalize mergedGroup s lo hi = g at heq hr hg hscene ⊢
  generalize recomputeMismatch { s with groups := (s.groups.set m none).set l (some g) } = u at heq hr hg
  have hw : (if clearsPendingTimes (mergedForm s lo hi) g = true then clearPendingTimes g.members u else u).groups = u.groups := by
    split <;> rfl
  have hrk : RecordsKept u (if clearsPendingTimes (mergedForm s lo hi) g = true then clearPendingTimes g.members u else u) :=
    .ite (clearPendingTimes_recordsKept ..)
  have hev : clearsPendingTimes (mergedForm s lo hi) g = true → ∀ y ∈ g.members,
      (if clearsPendingTimes (mergedForm s lo hi) g = true then clearPendingTimes g.members u else u).evidence[y].pendingTime =
        none := fun hc y hy => by
    rw [if_pos hc]
    simp only [clearPendingTimes, forZones_get, List.contains_iff_mem.mpr hy, if_true]
  generalize (if clearsPendingTimes (mergedForm s lo hi) g = true then clearPendingTimes g.members u else u) = w
    at heq hw hrk hev
  have hh : HandedOn l w (mergeAt k s) := heq ▸ handGroupChange_handedOn ..
  have hwg : w.groups = (s.groups.set m none).set l (some g) := hw.trans hg
  have hml : m.val ≠ l.val := fun e => hne (Fin.ext e).symm
  refine ⟨(hr.then hrk).then hh.recordsKept, ?_, ?_, fun y hyl hym => ?_, fun hc y hy => ?_⟩
  · have hself : g.withoutScene = g := by rw [Group.withoutScene, ← hscene]
    have hwl : w.groups[l] = some g := by rw [hwg]; simp
    rcases hh.own with h | h <;> rw [h, hwl]
    rw [Option.map_some, hself]
  · rw [hh.others m hne.symm, hwg]
    simp [hml.symm]
  · have h1 : l.val ≠ y.val := fun e => hyl (Fin.ext e).symm
    have h2 : m.val ≠ y.val := fun e => hym (Fin.ext e).symm
    rw [hh.others y hyl, hwg]
    simp [h1, h2]
  · rw [hh.units.frame]
    exact hev hc y hy

end Sys2Proof.Machine
end


section
/-! SUPPORT. The split at a partition (R72, R73, R74, R75, R76, R144). -/

namespace Sys2Proof.Machine

/-! ### A part takes its booking view (R73) -/

/-- R100: what a group holds that has entered EXPECTED, PREPARE or VACANT. -/
theorem enterGroup_unoccupied (s : State) (g : Group) {st : Occupancy} (h : st = .expected ∨ st = .prepare ∨ st = .vacant) :
    (enterGroup s st g).attended = g.attended ∧
    (enterGroup s st g).pendingSince = (if st = .expected then none else g.pendingSince) ∧
    (enterGroup s st g).holdoverDeadline = none ∧
    (enterGroup s st g).noShowDeadline =
      if st = .expected ∧ g.attended = false then some (s.elapsed + s.params.noShowLimit) else none := by
  rcases h with rfl | rfl | rfl
  · refine ⟨rfl, rfl, rfl, ?_⟩
    cases ha : g.attended <;> simp [enterGroup, ha]
  · exact ⟨rfl, rfl, rfl, rfl⟩
  · exact ⟨rfl, rfl, rfl, rfl⟩

/-- R73: a booking view moves a part to another state, EXPECTED from VACANT only. -/
theorem splitResult_some {st r : Occupancy} {booked upcoming : Bool} (h : splitResult st booked upcoming = some r) :
    r ≠ st ∧ (r = .expected ∨ r = .prepare ∨ r = .vacant) ∧ (r = .expected → st = .vacant) := by
  revert h
  cases st <;> cases booked <;> cases upcoming <;> simp +contextual [splitResult, eq_comm]

/-- R73: a part that its booking view does not book is unattended. -/
def splitAttended (g : Group) : Group := if g.booked then g else { g with attended := false }

theorem splitAttended_eq (g : Group) : splitAttended g = { g with attended := g.booked && g.attended } := by
  unfold splitAttended
  cases h : g.booked <;> simp

/-- R73: where a part is not held in VACANT, its booking view moves it or leaves it. -/
theorem splitBooking_eq (s : State) {g : Group} (h : ¬(g.effOverride = .forceVacant ∧ g.state = .vacant)) :
    splitBooking s g = match splitResult g.state g.booked g.hasUpcoming with
      | some st => enterGroup s st (splitAttended g)
      | none => splitAttended g := by
  have hx : splitBooking s g = if (splitAttended g).effOverride = .forceVacant ∧ (splitAttended g).state = .vacant
      then splitAttended g
      else match splitResult (splitAttended g).state (splitAttended g).booked (splitAttended g).hasUpcoming with
        | some st => enterGroup s st (splitAttended g)
        | none => splitAttended g := rfl
  rw [hx, splitAttended_eq]
  exact if_neg h

/-- R73: a part still forced vacant stays VACANT. -/
theorem splitBooking_held (s : State) {g : Group} (h : g.effOverride = .forceVacant ∧ g.state = .vacant) :
    splitBooking s g = splitAttended g := by
  have hx : splitBooking s g = if (splitAttended g).effOverride = .forceVacant ∧ (splitAttended g).state = .vacant
      then splitAttended g
      else match splitResult (splitAttended g).state (splitAttended g).booked (splitAttended g).hasUpcoming with
        | some st => enterGroup s st (splitAttended g)
        | none => splitAttended g := rfl
  rw [hx, splitAttended_eq]
  exact if_pos h

theorem splitBooking_kept (s : State) (g : Group) : (splitBooking s g).members = g.members ∧
    (splitBooking s g).booking = g.booking ∧ (splitBooking s g).lastPresence = g.lastPresence ∧
    (splitBooking s g).effOverride = g.effOverride ∧ (splitBooking s g).manualScene = g.manualScene := by
  by_cases h : g.effOverride = .forceVacant ∧ g.state = .vacant
  · rw [splitBooking_held s h, splitAttended_eq]
    exact ⟨rfl, rfl, rfl, rfl, rfl⟩
  · rw [splitBooking_eq s h, splitAttended_eq]
    split <;> simp

/-- R73: what a part holds after it has taken its booking view. -/
theorem splitBooking_taken (s : State) {g : Group} (h : ¬(g.effOverride = .forceVacant ∧ g.state = .vacant)) :
    (splitBooking s g).state = (splitResult g.state g.booked g.hasUpcoming).getD g.state ∧
    (splitBooking s g).attended = (g.booked && g.attended) ∧
    (splitBooking s g).pendingSince =
      (if (splitBooking s g).state = .expected ∧ g.state = .vacant then none else g.pendingSince) ∧
    ((splitBooking s g).state = g.state → (splitBooking s g).holdoverDeadline = g.holdoverDeadline ∧
      (splitBooking s g).noShowDeadline = g.noShowDeadline) ∧
    ((splitBooking s g).state ≠ g.state → (splitBooking s g).holdoverDeadline = none ∧
      (splitBooking s g).noShowDeadline = if (splitBooking s g).state = .expected ∧ (splitBooking s g).attended = false
        then some (s.elapsed + s.params.noShowLimit) else none) := by
  rw [splitBooking_eq s h, splitAttended_eq]
  cases hr : splitResult g.state g.booked g.hasUpcoming with
  | none =>
    refine ⟨rfl, rfl, (if_neg ?_).symm, fun _ => ⟨rfl, rfl⟩, fun hn => absurd rfl hn⟩
    rintro ⟨he, hv⟩
    rw [show g.state = .expected from he] at hv
    cases hv
  | some st =>
    obtain ⟨hne, hst, hex⟩ := splitResult_some hr
    obtain ⟨h1, h2, h3, h4⟩ := enterGroup_unoccupied s { g with attended := g.booked && g.attended } hst
    simp only [enterGroup_state, Option.getD_some]
    refine ⟨trivial, h1, h2.trans ?_, fun he => absurd he hne, fun _ => ⟨h3, ?_⟩⟩
    · exact if_congr ⟨fun he => ⟨he, hex he⟩, And.left⟩ rfl rfl
    · rw [h4, h1]

/-! ### The record of a part (R72, R74, R75) -/

/-- R72, R73, R75: the record of a part before its head count is formed. -/
def splitEntered (s : State) (old : Group) (members : List Zone) : Group :=
  applyOverride s old.effOverride (splitBooking s (splitForm s old members))

theorem splitGroup_eq (s : State) (old : Group) (members : List Zone) : splitGroup s old members =
    { splitEntered s old members with
      headCount := splitCount s old (splitEntered s old members), reportPending := true } := rfl

/-- What a part takes of its members in every case. -/
theorem splitGroup_kept (s : State) (old : Group) (members : List Zone) :
    (splitGroup s old members).members = members ∧
      (splitGroup s old members).booking = bookingFields s members ∧
      (splitGroup s old members).lastPresence = splitPresence s old.state members ∧
      (splitGroup s old members).effOverride = effectiveOverride s members ∧
      (splitGroup s old members).manualScene = old.manualScene := by
  obtain ⟨h1, h2, h3, h4, h5⟩ := splitBooking_kept s (splitForm s old members)
  exact ⟨(applyOverride_members ..).trans h1, (applyOverride_booking ..).trans h2, (applyOverride_lastPresence ..).trans h3,
    (applyOverride_effOverride ..).trans h4, (applyOverride_manualScene ..).trans h5⟩

/-- R74: the head count of a part by the state it is in. -/
theorem splitGroup_headCount (s : State) (old : Group) (members : List Zone) : (splitGroup s old members).headCount =
    if (splitGroup s old members).state = .occupied then occupiedCount s (splitGroup s old members)
    else if (splitGroup s old members).state = .holdover then
      ((splitGroup s old members).members.map (shareOf s old.headCount old.members)).sum
    else 0 := by
  rw [splitGroup_eq]
  generalize splitEntered s old members = g
  show splitCount s old g = if g.state = .occupied then occupiedCount s g
    else if g.state = .holdover then (g.members.map (shareOf s old.headCount old.members)).sum else 0
  unfold splitCount
  cases g.state <;> simp

/-- R75: where the override is the old group's, the part is the one its booking view gives. -/
theorem splitEntered_same {s : State} {old : Group} {members : List Zone}
    (h : effectiveOverride s members = old.effOverride) :
    splitEntered s old members = splitBooking s (splitForm s old members) := by
  obtain ⟨-, -, -, he, -⟩ := splitBooking_kept s (splitForm s old members)
  exact applyOverride_self (he.trans h)

/-- R75: a part that is, and was, forced vacant stays VACANT. -/
theorem splitGroup_stays_vacant {s : State} {old : Group} {members : List Zone}
    (h : effectiveOverride s members = .forceVacant) (ho : old.effOverride = .forceVacant) (hv : old.state = .vacant) :
    (splitGroup s old members).state = .vacant := by
  show (splitEntered s old members).state = .vacant
  rw [splitEntered_same (h.trans ho.symm), splitBooking_held s (g := splitForm s old members) ⟨h, hv⟩, splitAttended_eq]
  exact hv

/-- R75: the state of a part whose override is another than the old group's. -/
theorem splitGroup_overridden {s : State} {old : Group} {members : List Zone}
    (h : effectiveOverride s members ≠ old.effOverride) :
    (effectiveOverride s members = .forceOccupied → (splitGroup s old members).state = .occupied) ∧
    (effectiveOverride s members = .forceVacant → (splitGroup s old members).state = .vacant) ∧
    (effectiveOverride s members = .auto → old.effOverride = .forceOccupied →
      (splitGroup s old members).state = .holdover) ∧
    (effectiveOverride s members = .auto → old.effOverride = .forceVacant → old.state = .vacant →
      (splitGroup s old members).state = if (splitGroup s old members).booked then .expected
        else if (splitGroup s old members).hasUpcoming then .prepare else .vacant) := by
  obtain ⟨hm, hb, -, he, -⟩ := splitBooking_kept s (splitForm s old members)
  have heff : (splitBooking s (splitForm s old members)).effOverride = effectiveOverride s members := he
  refine ⟨fun ho => applyOverride_forceOccupied (heff.trans ho) (ho ▸ h.symm),
    fun hv => (applyOverride_forceVacant (heff.trans hv) (hv ▸ h.symm)).1, fun ha ho => ?_, fun ha ho hv => ?_⟩
  · show (splitEntered s old members).state = .holdover
    simp [splitEntered, applyOverride, heff, ha, ho]
  · have hbooked : (splitGroup s old members).booked = (splitBooking s (splitForm s old members)).booked := by
      simp only [Group.booked, splitGroup_kept, hm, hb]
      rfl
    have hup : (splitGroup s old members).hasUpcoming = (splitBooking s (splitForm s old members)).hasUpcoming := by
      simp only [Group.hasUpcoming, splitGroup_kept, hb]
      rfl
    have hview : (splitForm s old members).booked = (splitBooking s (splitForm s old members)).booked ∧
        (splitForm s old members).hasUpcoming = (splitBooking s (splitForm s old members)).hasUpcoming := by
      simp only [Group.booked, Group.hasUpcoming, hm, hb]
      exact ⟨trivial, trivial⟩
    obtain ⟨hs, -⟩ := splitBooking_taken s (g := splitForm s old members) fun hc => by
      have hf : effectiveOverride s members = .forceVacant := hc.1
      rw [ha] at hf
      cases hf
    rw [hview.1, hview.2, show (splitForm s old members).state = .vacant from hv] at hs
    show (splitEntered s old members).state = _
    rw [hbooked, hup, splitEntered]
    cases hbk : (splitBooking s (splitForm s old members)).booked <;>
      cases hu : (splitBooking s (splitForm s old members)).hasUpcoming <;>
      simp [applyOverride, heff, ha, ho, hbk, hu, hs, splitResult]

/-! ### The selection of a part (R144) -/

/-- R144: what a selection leaves of the records. -/
theorem selectGroup_groups {l : Zone} {g : Group} {s : State} (hg : s.groups[l] = some g) (clear force : Bool) :
    (selectGroup l clear force s).groups =
      s.groups.set l (some (if clearsManual g clear then g.withoutScene else g)) := by
  unfold selectGroup
  rw [hg]
  exact (UnitWork.foldl (selectMember_unitWork _ force) _ _).groups

/-- R144: the record of a part of a group after its selection. -/
def Group.selectedFrom (g old : Group) : Group := if clearsManual g (changeClears old g false) then g.withoutScene else g

theorem selectedFrom_bare (g old : Group) : (g.selectedFrom old).bare = g.bare := by
  unfold Group.selectedFrom
  split <;> rfl

/-- R144: a part keeps the manual scene in OCCUPIED and HOLDOVER, where it is OCCUPIED only if the group was. -/
theorem selectedFrom_manualScene {g old : Group} (h : g.state = .occupied → old.state = .occupied) :
    (g.selectedFrom old).manualScene = if g.state = .occupied ∨ g.state = .holdover then g.manualScene else none := by
  unfold Group.selectedFrom
  by_cases ho : g.state = .occupied
  · simp [clearsManual, changeClears, ho, h ho, Occupancy.isOccupied]
  · by_cases hh : g.state = .holdover
    · simp [clearsManual, changeClears, hh, Occupancy.isOccupied]
    · have hn : g.state.isOccupied = false := by
        cases hst : g.state <;> simp_all [Occupancy.isOccupied]
      simp [clearsManual, hn, ho, hh, Group.withoutScene]

/-! ### The split -/

theorem zone_set_self {α : Type} (v : PerZone α) (z : Zone) (a : α) : (v.set z a)[z] = a := Vector.getElem_set_self ..

theorem zone_set_ne {α : Type} (v : PerZone α) {y z : Zone} (h : z ≠ y) (a : α) : (v.set y a)[z] = v[z] :=
  Vector.getElem_set_ne _ _ fun e => h (Fin.ext e).symm

/-- R72 to R76: the state after the records of the two parts are written and handed on. -/
def splitWritten (k : Fin 3) (l : Zone) (old lo hi : Group) (s : State) : State :=
  selectGroup k.succ (changeClears old hi false) false (selectGroup l (changeClears old lo false) false
    (airEvaluateZones false old.members (splitPendingTimes old hi (splitPendingTimes old lo
      (recomputeMismatch { s with groups := (s.groups.set l (some lo)).set k.succ (some hi) })))))

theorem splitAt_eq {k : Fin 3} {s : State} {l : Zone} {g : Group} (hg : groupOf s k.castSucc = some (l, g))
    (hc : k.succ ∈ g.members) : splitAt k s = splitWritten k l g (splitGroup s g (g.members.filter (· ≤ k.castSucc)))
      (splitGroup s g (g.members.filter (k.castSucc < ·))) s := by
  unfold splitAt
  rw [hg]
  exact if_pos (List.contains_iff_mem.mpr hc)

/-- R72, R76: what a split leaves: a part's record at each leader, the rest as written. -/
theorem splitWritten_regrouped {k : Fin 3} {l : Zone} (hne : l ≠ k.succ) (old lo hi : Group) (s : State) :
    Regrouped s ((s.groups.set l (some lo)).set k.succ (some hi)) (splitWritten k l old lo hi s) ∧
      (splitWritten k l old lo hi s).groups[l] = some (lo.selectedFrom old) ∧
      (splitWritten k l old lo hi s).groups[k.succ] = some (hi.selectedFrom old) ∧
      ∀ y : Zone, y ≠ l → y ≠ k.succ → (splitWritten k l old lo hi s).groups[y] = s.groups[y] := by
  have heq : splitWritten k l old lo hi s = _ := splitWritten.eq_1 ..
  have hr := regrouped_recomputeMismatch s ((s.groups.set l (some lo)).set k.succ (some hi))
  have hu : (recomputeMismatch { s with groups := (s.groups.set l (some lo)).set k.succ (some hi) }).groups =
      (s.groups.set l (some lo)).set k.succ (some hi) := (recomputeMismatch_kept _).2.2.2.1
  generalize recomputeMismatch { s with groups := (s.groups.set l (some lo)).set k.succ (some hi) } = u at heq hr hu
  have hpt : ∀ (x : Group) (v : State), RecordsKept v (splitPendingTimes old x v) ∧ (splitPendingTimes old x v).groups = v.groups :=
    fun x v => ⟨.ite (clearPendingTimes_recordsKept ..), by unfold splitPendingTimes; split <;> rfl⟩
  have ha := airEvaluateZones_unitWork false old.members (splitPendingTimes old hi (splitPendingTimes old lo u))
  have hag : (airEvaluateZones false old.members (splitPendingTimes old hi (splitPendingTimes old lo u))).groups =
      (s.groups.set l (some lo)).set k.succ (some hi) :=
    ha.groups.trans ((hpt hi _).2.trans ((hpt lo u).2.trans hu))
  have hk := (((hpt lo u).1.trans (hpt hi _).1).trans ha.recordsKept)
  generalize airEvaluateZones false old.members (splitPendingTimes old hi (splitPendingTimes old lo u)) = w at heq hag hk
  have h1 := selectGroup_groups (l := l) (g := lo) (s := w) (by rw [hag, zone_set_ne _ hne, zone_set_self])
    (changeClears old lo false) false
  have hk1 := (selectGroup_handedOn l (changeClears old lo false) false w).recordsKept
  generalize selectGroup l (changeClears old lo false) false w = v at heq h1 hk1
  have h2 := selectGroup_groups (l := k.succ) (g := hi) (s := v) (by rw [h1, hag, zone_set_ne _ hne.symm, zone_set_self])
    (changeClears old hi false) false
  have hk2 := (selectGroup_handedOn k.succ (changeClears old hi false) false v).recordsKept
  rw [← heq] at h2 hk2
  rw [h1, hag, ← Group.selectedFrom, ← Group.selectedFrom] at h2
  refine ⟨((hr.then hk).then hk1).then hk2, ?_, ?_, fun y hyl hyk => ?_⟩
  · rw [h2, zone_set_ne _ hne, zone_set_self]
  · rw [h2, zone_set_self]
  · rw [h2, zone_set_ne _ hyk, zone_set_ne _ hyl, zone_set_ne _ hyk, zone_set_ne _ hyl]

end Sys2Proof.Machine
end


section
/-! SUPPORT. What the command of a partition's arrival leaves of a merge and of a split, as the statement says it (R65 to R76). -/

namespace Sys2Proof.Machine

/-! ### Records but for their marks -/

/-- A record that is another's but for its mark. -/
theorem eq_of_unmarked {g h : Group} (e : g.unmarked = h.unmarked) : g = { h with reportPending := g.reportPending } :=
  congrArg (fun x : Group => { x with reportPending := g.reportPending }) e

/-- A record that is another's but for its manual scene and its mark. -/
theorem eq_of_bare {g h : Group} (e : g.bare = h.bare) :
    g = { h with manualScene := g.manualScene, reportPending := g.reportPending } :=
  congrArg (fun x : Group => { x with manualScene := g.manualScene, reportPending := g.reportPending }) e

/-- R13: a record behind the offers. -/
theorem Offered.record {s t : State} (h : Offered s t) {y : Zone} {g : Group} (hg : s.groups[y] = some g) :
    ∃ x, t.groups[y] = some x ∧ x.unmarked = g.unmarked := by
  have hy := h.groups y
  rw [hg] at hy
  exact Option.map_eq_some_iff.mp hy

theorem Offered.noRecord {s t : State} (h : Offered s t) {y : Zone} (hg : s.groups[y] = none) : t.groups[y] = none := by
  have hy := h.groups y
  rw [hg] at hy
  exact Option.map_eq_none_iff.mp hy

/-! ### A merge -/

/-- R69, R70, R115: the merged record where its override is the one its state was taken with. -/
theorem mergedGroup_same {s : State} {lo hi : Group}
    (h : effectiveOverride s (lo.members ++ hi.members) = (stateSource lo hi).effOverride) :
    let src := stateSource lo hi
    let g := mergedGroup s lo hi
    g.state = (if src.state = .prepare ∧ g.booked = true then .expected else src.state) ∧
    g.attended = (lo.attended || hi.attended) ∧
    g.pendingSince = (if g.state = .vacant ∨ g.state = .prepare ∨ g.state = .noShow then
      earlierOf lo.pendingSince hi.pendingSince else none) ∧
    g.holdoverDeadline = (if g.state = .holdover then laterOf lo.holdoverDeadline hi.holdoverDeadline else none) ∧
    g.noShowDeadline = (if g.state ≠ .expected ∨ g.attended = true then none
      else if src.state = .expected then laterOf lo.noShowDeadline hi.noShowDeadline
      else some (s.elapsed + s.params.noShowLimit)) := by
  have hf := mergedBooking_form s lo hi
  rw [← mergedEntered_same h] at hf
  exact hf

/-- R69 to R71, R75, R76, R97, R115: what a merge and the offers leave. -/
theorem merge_leaves {k : Fin 3} {s t : State} {l m : Zone} {lo hi : Group} (hl : groupOf s k.castSucc = some (l, lo))
    (hm : groupOf s k.succ = some (m, hi)) (hne : l ≠ m) (ht : settle (mergeAt k s) = t) :
    MismatchAfter s.mismatch (s.notice .partitionMismatch) t ∧
    ∃ g, t.groups[l] = some g ∧ t.groups[m] = none ∧ g.members = lo.members ++ hi.members ∧
      (∀ y : Zone, y ≠ l → y ≠ m → t.groups[y].map Group.unmarked = s.groups[y].map Group.unmarked) ∧
      g.manualScene = none ∧ g.lastPresence = laterOf lo.lastPresence hi.lastPresence ∧
      g.effOverride = effectiveOverride s g.members ∧ (∀ y ∈ g.members, g.booking.list[y] = s.views[y].active) ∧
      ((stateSource lo hi).state = .occupied ∨ (stateSource lo hi).state = .holdover ∨
        (stateSource lo hi).state = .expected → ∀ y ∈ g.members, t.evidence[y].pendingTime = none) ∧
      (g.effOverride = (stateSource lo hi).effOverride →
        g.state = (if (stateSource lo hi).state = .prepare ∧ g.booked = true then .expected
          else (stateSource lo hi).state) ∧
        g.attended = (lo.attended || hi.attended) ∧
        g.pendingSince = (if g.state = .vacant ∨ g.state = .prepare ∨ g.state = .noShow then
          earlierOf lo.pendingSince hi.pendingSince else none) ∧
        g.holdoverDeadline =
          (if g.state = .holdover then laterOf lo.holdoverDeadline hi.holdoverDeadline else none) ∧
        g.noShowDeadline = (if g.state ≠ .expected ∨ g.attended = true then none
          else if (stateSource lo hi).state = .expected then laterOf lo.noShowDeadline hi.noShowDeadline
          else some (s.elapsed + s.params.noShowLimit)) ∧
        g.headCount = (if g.state = .occupied then estimateOf t g
          else if g.state = .holdover then min 400 (lo.headCount + hi.headCount) else 0)) ∧
      (g.effOverride ≠ (stateSource lo hi).effOverride →
        (g.effOverride = .forceOccupied → g.state = .occupied ∧ g.headCount = estimateOf t g) ∧
        (g.effOverride = .forceVacant → g.state = .vacant ∧ g.headCount = 0) ∧
        (g.effOverride = .auto → (stateSource lo hi).effOverride = .forceOccupied → g.state = .holdover)) := by
  obtain ⟨hr, hgl, hgm, hgy, hclear⟩ := mergeAt_regrouped hl hm hne
  have ho := settle_offered (mergeAt k s)
  rw [ht] at ho
  have hrt := hr.then ho.recordsKept
  obtain ⟨hmem, hbook, hlast, heff, hscene⟩ := mergedGroup_kept s lo hi
  have hcount := mergedGroup_headCount s lo hi
  obtain ⟨g, hg, hgu⟩ := ho.record hgl
  have hge := eq_of_unmarked hgu
  generalize g.reportPending = b at hge
  subst hge
  have hest : occupiedCount s (mergedGroup s lo hi) = estimateOf t { mergedGroup s lo hi with reportPending := b } :=
    (occupiedCount_eq ..).trans (estimateOf_congr (by rw [hrt.frame]) (by rw [hrt.frame]) rfl rfl).symm
  refine ⟨hrt.mismatch, _, hg, ho.noRecord hgm, hmem, fun y hyl hym => (ho.groups y).trans (by rw [hgy y hyl hym]), hscene,
    hlast, heff.trans (by rw [hmem]), fun y hy => ?_, fun hst y hy => ?_, fun he => ?_, fun he => ?_⟩
  · have hy' : y ∈ lo.members ++ hi.members := hmem ▸ hy
    show (mergedGroup s lo hi).booking.list[y] = _
    rw [hbook]
    exact bookingFields_list hy'
  · rw [ho.frame]
    exact hclear (clearsPendingTimes_of hst) y hy
  · obtain ⟨h1, h2, h3, h4, h5⟩ := mergedGroup_same (heff.symm.trans he)
    exact ⟨h1, h2, h3, h4, h5, hcount.trans (by rw [hest])⟩
  · obtain ⟨h1, h2, h3⟩ := mergedGroup_overridden fun hc => he (heff.trans hc)
    refine ⟨fun hf => ?_, fun hf => ?_, fun ha hf => h3 (heff.symm.trans ha) hf⟩
    · have hst := h1 (heff.symm.trans hf)
      exact ⟨hst, hcount.trans ((if_pos hst).trans hest)⟩
    · have hst := h2 (heff.symm.trans hf)
      refine ⟨hst, hcount.trans ?_⟩
      rw [hst]
      rfl

/-! ### A split -/

/-- R72, R73: the part's record where its override is the group's and it is not held in VACANT. -/
theorem splitGroup_same {s : State} {old : Group} {members : List Zone} (h : effectiveOverride s members = old.effOverride)
    (hv : ¬(effectiveOverride s members = .forceVacant ∧ old.state = .vacant)) :
    let g := splitGroup s old members
    g.state = (splitResult old.state g.booked g.hasUpcoming).getD old.state ∧
    g.attended = (g.booked && old.attended) ∧
    g.pendingSince = (if g.state = .expected ∧ old.state = .vacant then none
      else members.foldl (fun x y => earlierOf x s.evidence[y].pendingTime) none) ∧
    (g.state = old.state → g.holdoverDeadline = old.holdoverDeadline ∧ g.noShowDeadline = old.noShowDeadline) ∧
    (g.state ≠ old.state → g.holdoverDeadline = none ∧ g.noShowDeadline =
      (if g.state = .expected ∧ g.attended = false then some (s.elapsed + s.params.noShowLimit) else none)) := by
  have hf := splitBooking_taken s (g := splitForm s old members) hv
  obtain ⟨hm, hb, -, -, -⟩ := splitGroup_kept s old members
  have hbooked : (splitGroup s old members).booked = (splitForm s old members).booked := by
    rw [Group.booked, hm, hb]
    rfl
  have hup : (splitGroup s old members).hasUpcoming = (splitForm s old members).hasUpcoming := by
    rw [Group.hasUpcoming, hb]
    rfl
  rw [← splitEntered_same h, ← hbooked, ← hup] at hf
  exact hf

/-- R72 to R75: what a split and the offers leave of one part `n`, formed of `members` out of `old`. -/
theorem part_leaves {s t : State} {old n : Group} {members : List Zone} (hz : t.zones = s.zones) (hp : t.points = s.points)
    (hb : n.bare = (splitGroup s old members).bare)
    (hm : n.manualScene = ((splitGroup s old members).selectedFrom old).manualScene) :
    n.members = members ∧
    n.effOverride = effectiveOverride s n.members ∧ (∀ y ∈ n.members, n.booking.list[y] = s.views[y].active) ∧
    n.lastPresence = splitPresence s old.state n.members ∧
    (n.effOverride = old.effOverride → ¬(n.effOverride = .forceVacant ∧ old.state = .vacant) →
      n.state = (splitResult old.state n.booked n.hasUpcoming).getD old.state ∧
      n.attended = (n.booked && old.attended) ∧
      n.pendingSince = (if n.state = .expected ∧ old.state = .vacant then none
        else n.members.foldl (fun x y => earlierOf x s.evidence[y].pendingTime) none) ∧
      (n.state = old.state → n.holdoverDeadline = old.holdoverDeadline ∧ n.noShowDeadline = old.noShowDeadline) ∧
      (n.state ≠ old.state → n.holdoverDeadline = none ∧ n.noShowDeadline =
        (if n.state = .expected ∧ n.attended = false then some (s.elapsed + s.params.noShowLimit) else none)) ∧
      n.manualScene = (if n.state = .occupied ∨ n.state = .holdover then old.manualScene else none) ∧
      n.headCount = (if n.state = .occupied then estimateOf t n
        else if n.state = .holdover then
          (n.members.map fun y => (apportion old.headCount (old.members.map fun x =>
            (s.zones[x].map (·.area)).getD 0)).getD (old.members.idxOf y) 0).sum
        else 0)) ∧
    (n.effOverride = .forceVacant → n.state = .vacant ∨ n.effOverride = old.effOverride) ∧
    (n.effOverride = .forceVacant → old.effOverride = .forceVacant → old.state = .vacant → n.state = .vacant) ∧
    (n.effOverride ≠ old.effOverride →
      (n.effOverride = .forceOccupied → n.state = .occupied ∧ n.headCount = estimateOf t n) ∧
      (n.effOverride = .forceVacant → n.headCount = 0) ∧
      (n.effOverride = .auto → old.effOverride = .forceVacant → old.state = .vacant →
        n.state = (if n.booked then .expected else if n.hasUpcoming then .prepare else .vacant) ∧ n.headCount = 0) ∧
      (n.effOverride = .auto → old.effOverride = .forceOccupied → n.state = .holdover)) := by
  have hshare : (shareOf s old.headCount old.members) = fun y => (apportion old.headCount (old.members.map fun x =>
      (s.zones[x].map (·.area)).getD 0)).getD (old.members.idxOf y) 0 := by
    funext y
    rw [shareOf, show areaOf s = fun x => (s.zones[x].map (·.area)).getD 0 from funext (areaOf_eq s)]
  have hne := eq_of_bare hb
  generalize n.manualScene = q at hne hm
  generalize n.reportPending = b at hne
  subst hne
  have hest : occupiedCount s (splitGroup s old members) =
      estimateOf t { splitGroup s old members with manualScene := q, reportPending := b } :=
    (occupiedCount_eq ..).trans (estimateOf_congr hz hp rfl rfl).symm
  obtain ⟨hmem, hbook, hlast, heff, hscene⟩ := splitGroup_kept s old members
  have hcount := splitGroup_headCount s old members
  rw [hest, hshare] at hcount
  refine ⟨hmem, heff.trans (by rw [hmem]), fun y hy => ?_, hlast.trans (by rw [hmem]), fun he hv => ?_, fun hf => ?_,
    fun hf ho hv => splitGroup_stays_vacant (heff.symm.trans hf) ho hv, fun he => ?_⟩
  · have hy' : y ∈ members := hmem ▸ hy
    show (splitGroup s old members).booking.list[y] = _
    rw [hbook]
    exact bookingFields_list hy'
  · have he' := heff.symm.trans he
    obtain ⟨h1, h2, h3, h4, h5⟩ := splitGroup_same he' fun hc => hv ⟨heff.trans hc.1, hc.2⟩
    refine ⟨h1, h2, h3.trans (by rw [hmem]), h4, h5, hm.trans ?_, hcount⟩
    refine (selectedFrom_manualScene fun ho => ?_).trans (by rw [hscene])
    rw [h1] at ho
    cases hr : splitResult old.state (splitGroup s old members).booked (splitGroup s old members).hasUpcoming with
    | none => rwa [hr] at ho
    | some st =>
      rw [hr, Option.getD_some] at ho
      obtain ⟨-, hst, -⟩ := splitResult_some hr
      rw [ho] at hst
      exact absurd hst (by decide)
  · by_cases he : effectiveOverride s members = old.effOverride
    · exact .inr (heff.trans he)
    · exact .inl ((splitGroup_overridden he).2.1 (heff.symm.trans hf))
  · obtain ⟨h1, h2, h3, h4⟩ := splitGroup_overridden fun hc => he (heff.trans hc)
    refine ⟨fun hf => ?_, fun hf => ?_, fun ha ho hv => ?_, fun ha ho => h3 (heff.symm.trans ha) ho⟩
    · have hst := h1 (heff.symm.trans hf)
      exact ⟨hst, hcount.trans (if_pos hst)⟩
    · exact hcount.trans (by rw [h2 (heff.symm.trans hf)]; rfl)
    · have hst := h4 (heff.symm.trans ha) ho hv
      refine ⟨hst, hcount.trans ?_⟩
      rw [hst]
      split
      · rfl
      · split <;> rfl

end Sys2Proof.Machine
end


section
/-! SUPPORT. The partition change event of an arrival, case by case (R54, R65, R69, R72), over the state before the command. -/

namespace Sys2Proof.Machine

/-! ### The partition after its arrival (R54) -/

/-- R65: a partition between configured zones is open where it is mapped and its value says so. -/
theorem partitionOpen_eq {s : State} {k : Fin 3} {c : ZoneConfig} (hc : s.zones[k.castSucc] = some c) :
    partitionOpen s k = (c.partitionToNext && s.partitions[k] == some false) := by
  unfold partitionOpen
  rw [hc]

/-- R54: the partition after an arrival. -/
theorem partitionOpen_arrived {s x : State} {k : Fin 3} {c : ZoneConfig} {n : Nat} (hc : s.zones[k.castSucc] = some c)
    (hz : x.zones = s.zones) (hx : x.partitions = s.partitions.set k (some (decide (n ≠ 0)))) :
    partitionOpen x k = (c.partitionToNext && decide (n = 0)) := by
  have hv : x.partitions[k] = some (decide (n ≠ 0)) := by
    rw [hx]
    exact Vector.getElem_set_self ..
  rw [partitionOpen_eq (hz ▸ hc), hv]
  by_cases h : n = 0 <;> simp [h]

/-- R65: a frame that leaves the partition's effective state does nothing besides. -/
theorem partitionChange_same {k : Fin 3} {b : Bool} {s : State} (h : partitionOpen s k = b) : partitionChange k b s = s :=
  if_pos h

theorem partitionChange_opened {k : Fin 3} {s : State} (ho : partitionOpen s k = true) (hlo : present s k.castSucc = true)
    (hhi : present s k.succ = true) : partitionChange k false s = mergeAt k s := by
  simp [partitionChange, ho, hlo, hhi]

theorem partitionChange_closed {k : Fin 3} {s : State} (ho : partitionOpen s k = false) (hlo : present s k.castSucc = true)
    (hhi : present s k.succ = true) : partitionChange k true s = splitAt k s := by
  simp [partitionChange, ho, hlo, hhi]

/-- R66: at a closed partition the groups on either side are led by different zones. -/
theorem GroupsSound.leaders_ne {s : State} (h : GroupsSound s) {k : Fin 3} (hlo : present s k.castSucc = true)
    (hhi : present s k.succ = true) (hc : partitionOpen s k = false) {l m : Zone} {lo hi : Group}
    (hl : groupOf s k.castSucc = some (l, lo)) (hm : groupOf s k.succ = some (m, hi)) : l ≠ m := by
  rintro rfl
  have ha := h.across hlo hhi hl
  rw [hc] at ha
  obtain ⟨hgl, -⟩ := groupOf_some hl
  obtain ⟨hgm, hmem⟩ := groupOf_some hm
  rw [hgl] at hgm
  cases hgm
  exact ha hmem

/-- What stands when a frame is consumed, read off the state before it. -/
theorem LinesFrame.kept {s x : State} (h : LinesFrame s x) : x.zones = s.zones ∧ x.groups = s.groups ∧
    x.overrides = s.overrides ∧ x.views = s.views ∧ x.evidence = s.evidence ∧ x.mismatch = s.mismatch ∧
    x.elapsed = s.elapsed ∧ x.params = s.params := by
  rw [h]
  exact ⟨rfl, rfl, rfl, rfl, rfl, rfl, rfl, rfl⟩

/-- R73: the state a part takes, as the statement says it. -/
theorem splitResult_getD (st : Occupancy) (booked upcoming : Bool) : (splitResult st booked upcoming).getD st =
    match st with
    | .expected => if booked then .expected else if upcoming then .prepare else .vacant
    | .noShow => if booked then .noShow else if upcoming then .prepare else .vacant
    | .prepare => if booked || upcoming then .prepare else .vacant
    | .vacant => if booked then .expected else if upcoming then .prepare else .vacant
    | .occupied => .occupied
    | .holdover => .holdover := by
  cases st <;> cases booked <;> cases upcoming <;> rfl

/-- R72, R76, R97: what a split and the offers leave of the records: `bare` and manual scene of the parts, the rest as it was. -/
theorem split_leaves {k : Fin 3} {s : State} {l : Zone} {g : Group} (hl : groupOf s k.castSucc = some (l, g))
    (hk : k.succ ∈ g.members) (hne : l ≠ k.succ) :
    MismatchAfter s.mismatch (s.notice .partitionMismatch) (settle (splitAt k s)) ∧
    (settle (splitAt k s)).zones = s.zones ∧ (settle (splitAt k s)).points = s.points ∧
    ∃ a b, (settle (splitAt k s)).groups[l] = some a ∧ (settle (splitAt k s)).groups[k.succ] = some b ∧
      a.unmarked = ((splitGroup s g (g.members.filter (· ≤ k.castSucc))).selectedFrom g).unmarked ∧
      b.unmarked = ((splitGroup s g (g.members.filter (k.castSucc < ·))).selectedFrom g).unmarked ∧
      ∀ y : Zone, y ≠ l → y ≠ k.succ →
        (settle (splitAt k s)).groups[y].map Group.unmarked = s.groups[y].map Group.unmarked := by
  obtain ⟨hr, hgl, hgk, hgy⟩ := splitWritten_regrouped hne g (splitGroup s g (g.members.filter (· ≤ k.castSucc)))
    (splitGroup s g (g.members.filter (k.castSucc < ·))) s
  rw [← splitAt_eq hl hk] at hr hgl hgk hgy
  have ho := settle_offered (splitAt k s)
  have hrt := hr.then ho.recordsKept
  obtain ⟨a, ha, hau⟩ := ho.record hgl
  obtain ⟨b, hb, hbu⟩ := ho.record hgk
  exact ⟨hrt.mismatch, by rw [hrt.frame], by rw [hrt.frame], a, b, ha, hb, hau, hbu,
    fun y hyl hyk => (ho.groups y).trans (by rw [hgy y hyl hyk])⟩

/-- A record that is another's but for its mark is so with the manual scene apart. -/
theorem bare_of_unmarked {g h : Group} (e : g.unmarked = h.unmarked) : g.bare = h.bare ∧ g.manualScene = h.manualScene :=
  ⟨(congrArg Group.bare e :), (congrArg Group.manualScene e :)⟩

end Sys2Proof.Machine

open Sys2Proof Sys2Proof.Machine

/-- Settles O27, by the partition change event of the state in which the frame has been consumed: nothing, a merge or a split. -/
theorem partitionArrivalsMergeAndSplitGroups : Obligations.PartitionArrivalsMergeAndSplitGroups := by
  intro p bytes f e k c s h hk hs hp hc hhi later earlier rank unbooked
  obtain ⟨-, -, hgroups, hpres⟩ := hs
  have hlater : later = laterOf := by funext x y; cases x <;> cases y <;> rfl
  have hearlier : earlier = earlierOf := by funext x y; cases x <;> cases y <;> rfl
  have hrank : rank = Occupancy.mergeRank := by funext st; cases st <;> rfl
  clear_value later earlier rank
  subst hlater hearlier hrank
  have hlo : present s k.castSucc = true := by simp [present, hc]
  obtain ⟨x, hexec, hx, hpart, hnote⟩ := exec_partitionArrival h hk hpres hp
  have hopen := partitionOpen_eq hc
  obtain ⟨hz, hg, hov, hv, hev, hmis, hel, hpar⟩ := hx.kept
  have hxopen := partitionOpen_arrived hc hz hpart
  have hxlo : present x k.castSucc = true := by simpa [present, hz] using hlo
  have hxhi : present x k.succ = true := by simpa [present, hz] using hhi
  refine ⟨_, hexec, ?_, fun hsame => ?_, fun hto h0 hwas l lo m hi hl hm => ?_, fun hto h0 hwas l g hl => ?_⟩
  · rw [(settle_offered _).frame, (partitionChange_roomWork ..).frame, hov]
  · have heq : partitionOpen x k = partitionOpen s k := by
      rw [hxopen, hopen]
      rcases hsame with hto | hv
      · rw [hto]; rfl
      · rw [Bool.eq_iff_iff]
        simp [hv]
    rw [partitionChange_same heq]
    have ho := settle_offered x
    refine ⟨fun y => (ho.groups y).trans (by rw [hg]), ?_, ?_, ?_⟩
    · rw [ho.frame, hmis]
    · rw [(ho.notices _).1, hnote]
    · rw [(ho.notices _).2, hnote]
  · have hso : partitionOpen s k = false := by rw [hopen, beq_false_of_ne hwas, Bool.and_false]
    have hxo : partitionOpen x k = true := by rw [hxopen, hto, h0]; rfl
    have hne := hgroups.leaders_ne hlo hhi hso hl hm
    rw [hso, partitionChange_opened hxo hxlo hxhi]
    rw [← groupOf_congr hg] at hl hm
    have hmerge := merge_leaves hl hm hne rfl
    rw [hmis, hnote] at hmerge
    simp only [effectiveOverride, hov, hv, hel, hpar, hg] at hmerge
    exact hmerge
  · have hso : partitionOpen s k = true := by rw [hopen, hto, hwas]; rfl
    have hxo : partitionOpen x k = false := by rw [hxopen]; simp [h0]
    have hacross := hgroups.across hlo hhi hl
    rw [hso, if_pos rfl] at hacross
    obtain ⟨hmem, hne⟩ := hacross
    rw [hso, partitionChange_closed hxo hxlo hxhi]
    rw [← groupOf_congr hg] at hl
    obtain ⟨hm, hzt, hpt, a, b, hga, hgb, ha, hb, hrest⟩ := split_leaves hl hmem hne
    generalize settle (splitAt k x) = t at *
    rw [hmis, hnote] at hm
    rw [hg] at hrest
    obtain ⟨habare, hascene⟩ := bare_of_unmarked ha
    obtain ⟨hbbare, hbscene⟩ := bare_of_unmarked hb
    obtain ⟨hamem, hapart⟩ := part_leaves hzt hpt (habare.trans (selectedFrom_bare ..)) hascene
    obtain ⟨hbmem, hbpart⟩ := part_leaves hzt hpt (hbbare.trans (selectedFrom_bare ..)) hbscene
    refine ⟨hm, a, b, hga, hgb, hamem, hbmem, hrest, ?_⟩
    rintro n (rfl | rfl)
    · simp only [effectiveOverride, splitPresence, splitResult_getD, hov, hv, hel, hpar, hev, hz] at hapart
      exact hapart
    · simp only [effectiveOverride, splitPresence, splitResult_getD, hov, hv, hel, hpar, hev, hz] at hbpart
      exact hbpart

end
